-- ==== Sys2Proof/Word.lean ====
section
/-! DEFINITION. The plain value types of the block: bytes, addresses, the four resolutions, the nine-byte scratchpad
image and the three-byte write image (00_scope.md R8, 20_memory.md R50 to R52). -/

namespace Sys2Proof

/-- A byte: 8 bits, bit 0 the least significant (R8). -/
abbrev Byte := BitVec 8

/-- A 64-bit device address (R90). -/
abbrev Addr := BitVec 64

/-- The four resolution enumerants of R96. -/
inductive Resolution where
  | bits9 | bits10 | bits11 | bits12
  deriving DecidableEq, Repr

/-- Nine bytes `b0` to `b8`: the scratchpad image (R51) and the receive buffer `BUF[0]` to `BUF[8]` (R12). -/
structure Image9 where
  b0 : Byte
  b1 : Byte
  b2 : Byte
  b3 : Byte
  b4 : Byte
  b5 : Byte
  b6 : Byte
  b7 : Byte
  b8 : Byte
  deriving DecidableEq, Repr

/-- Three bytes `w0` to `w2`: the scratchpad-write latches `OPW[0]` to `OPW[2]` (R30), the write image of R52. -/
structure Image3 where
  w0 : Byte
  w1 : Byte
  w2 : Byte
  deriving DecidableEq, Repr

end Sys2Proof
end

