-- ==== Sys2Proof/Config.lean ====
section
/-! DEFINITION. The parameters of 00_scope.md R6 and R7, the command bytes of 30_encoding.md R62, the default
resolution of R109, the open type `TERR` (R7, U10), and the free values the spec leaves open (93_implementation_defined.md
U1, U2). -/

namespace Sys2Proof.Config

/-- `FAMILY`: the expected family code (R6, R93). -/
def family : Byte := 0x28#8

/-- `CRC_POLY`: the polynomial x^8 + x^5 + x^4 + x^0, bit i the coefficient of x^i (R6, R88). -/
def crcPoly : BitVec 9 := 0b1_0011_0001#9

/-- `CRC_MASK`: the feedback mask applied after a right shift when the bit shifted out was 1 (R6, R80). -/
def crcMask : Byte := 0x8C#8

/-- `CRC_SEED`: the seed of `calculate` (R6, R82). -/
def crcSeed : Byte := 0x00#8

/-- `N_ADDR`: bytes in a device address (R6). -/
def nAddr : Nat := 8

/-- `N_SP`: bytes in a scratchpad image (R6). -/
def nSp : Nat := 9

/-- `N_SPW`: writable scratchpad bytes (R6). -/
def nSpw : Nat := 3

/-- `T_CONV_MAX`: the 12-bit conversion time, 750 ms, in microseconds (R6, R122). -/
def tConvMax : Nat := 750000

/-- `CFG_9`, `CFG_10`, `CFG_11`, `CFG_12`: the four valid configuration bytes (R6, R63). -/
def cfg9 : Byte := 0x1F#8
def cfg10 : Byte := 0x3F#8
def cfg11 : Byte := 0x5F#8
def cfg12 : Byte := 0x7F#8

/-- The bits of a configuration byte that are fixed, and what they are fixed to: `(b & 0x9F) == 0x1F` (R63). -/
def cfgFixedMask : Byte := 0x9F#8
def cfgFixedBits : Byte := 0x1F#8

/-- The default resolution, assumed by the conversion wait and by nothing else (R109). -/
def defaultResolution : Resolution := .bits12

/-- `TEMP_BYTE0_IS_MSB`: byte 0 of the scratchpad is the most significant byte of the temperature. The spec's default is
`true` and the spec asks that it be kept as a switch (R7, R101, conflict C3). DESIGN CHOICE, assumption 7. -/
def tempByte0IsMsb : Bool := true

/-- Which tokens are payloads of a transport error. OPEN: no body, so the type `TErr` below, which it makes, is an argument
of the model that nothing can look into (R7, R28, D25; assumption 6). -/
opaque isPayload : Nat → Prop

/-! The command bytes of R62, in its order. The block never puts `search`, `searchAlarm`, `readPowerSupply`,
`copyScratchpad` or `recallEeprom` on the wire. -/

def cmdReadAddress : Byte := 0x33#8
def cmdMatchAddress : Byte := 0x55#8
def cmdSkipAddress : Byte := 0xCC#8
def cmdSearch : Byte := 0xF0#8
def cmdSearchAlarm : Byte := 0xEC#8
def cmdReadPowerSupply : Byte := 0xB4#8
def cmdWriteScratchpad : Byte := 0x4E#8
def cmdReadScratchpad : Byte := 0xBE#8
def cmdCopyScratchpad : Byte := 0x48#8
def cmdConvertTemperature : Byte := 0x44#8
def cmdRecallEeprom : Byte := 0xB8#8

/-- U1: what the buffer bytes of a failed `BusRead` hold (R12, R43). A FREE VALUE: no body, applied to the draw counter of
State, so that a claim is true whatever the bytes are (assumption 4). -/
opaque freeByte : Nat → Byte

/-- U2: how many bytes of a frame reached the wire when `BusWrite` answers `ERR` (R42). A FREE VALUE like `freeByte`;
the model takes that many bytes from the front of the frame, so any number counts as at most the frame's length. -/
opaque freeSentLength : Nat → Nat

end Sys2Proof.Config

namespace Sys2Proof

/-- The payload of a transport error: the open type `TERR` of R7, R28. All that is known of it is that it has a value and that
its values can be copied and told apart: which tokens there are besides the one named `reset` is left open. -/
structure TErr where
  token : Nat
  isPayload : token = 0 ∨ Config.isPayload token
  deriving DecidableEq, Repr

/-- The payload that the register `TERR` holds before any transport error (DESIGN CHOICE, assumption 1). -/
def TErr.reset : TErr := ⟨0, .inl rfl⟩

end Sys2Proof
end

