-- ==== Sys2Proof/Machine/Crc.lean ====
section
/-! DEFINITION. The CRC8 algorithm (40_crc8.md R80, R81). -/

namespace Sys2Proof.Machine

/-- One of the eight shifts of the byte step: a logical shift right, then the feedback mask if the bit shifted out was 1
(R80). -/
def crcShift (c : Byte) : Byte :=
  if c.getLsbD 0 then (c >>> 1) ^^^ Config.crcMask else c >>> 1

/-- `n` shifts in a row. -/
def crcShifts : Nat → Byte → Byte
  | 0, c => c
  | n + 1, c => crcShifts n (crcShift c)

/-- The byte step: the whole byte enters at once by exclusive-or, then eight shifts (R80, D28). -/
def byteStep (c b : Byte) : Byte := crcShifts 8 (c ^^^ b)

/-- `crc8(seed, bytes)`: the bytes processed in index order; `seed` for no bytes (R81). -/
def crc8 (seed : Byte) : List Byte → Byte
  | [] => seed
  | b :: bs => crc8 (byteStep seed b) bs

end Sys2Proof.Machine
end

