-- ==== Sys2Proof/Syntax.lean ====
section
/-! DEFINITION. The 22 host operations, one constructor per row of spec/opcode_table.json, in the table's order (R66),
with typed operands (R65). -/

namespace Sys2Proof

/-- A host operation with its operands. -/
inductive Instr where
  /-- `BUS_RESET` (R110) -/
  | busReset
  /-- `CRC_CALC data` (R85) -/
  | crcCalc (data : List Byte)
  /-- `CRC_CALC_INIT seed, data` (R86) -/
  | crcCalcInit (seed : Byte) (data : List Byte)
  /-- `CRC_CHECK data` (R87) -/
  | crcCheck (data : List Byte)
  /-- `FAMILY_CODE a` (R92) -/
  | familyCode (a : Addr)
  /-- `CFG_DECODE b` (R97) -/
  | cfgDecode (b : Byte)
  /-- `CFG_ENCODE r` (R98) -/
  | cfgEncode (res : Resolution)
  /-- `SP_DECODE b0, ..., b8` (R104) -/
  | spDecode (img : Image9)
  /-- `SP_ENCODE th, tl, r` (R105) -/
  | spEncode (th tl : Byte) (res : Resolution)
  /-- `CONV_TIME r` (R107) -/
  | convTime (res : Resolution)
  /-- `TEMPERATURE a` (R131) -/
  | temperature (a : Addr)
  /-- `READ_ADDRESS` (R111) -/
  | readAddress
  /-- `MATCH_ADDRESS a` (R112) -/
  | matchAddress (a : Addr)
  /-- `SKIP_ADDRESS` (R113) -/
  | skipAddress
  /-- `SEARCH_ALARM` (R114) -/
  | searchAlarm
  /-- `SEARCH f`: `first` is the restart flag (R130) -/
  | search (first : Bool)
  /-- `READ_SCRATCHPAD` (R120) -/
  | readScratchpad
  /-- `WRITE_SCRATCHPAD th, tl, r` (R121) -/
  | writeScratchpad (th tl : Byte) (res : Resolution)
  /-- `CONVERT_TEMPERATURE` (R122) -/
  | convertTemperature
  /-- `LOAD_SCRATCHPAD` (R123) -/
  | loadScratchpad
  /-- `SAVE_SCRATCHPAD` (R124) -/
  | saveScratchpad
  /-- `READ_POWER_SUPPLY` (R125) -/
  | readPowerSupply
  deriving DecidableEq, Repr

end Sys2Proof
end

