-- ==== Sys2Proof/WellFormed.lean ====
section
/-! DEFINITION. Which operations have an operation word: the length byte of formats `HS` and `HI` limits a byte
sequence to 255 bytes (R49, R65). Every other operand is bounded by its type. -/

namespace Sys2Proof

/-- A byte sequence an operation word can carry: "a byte sequence of length n, 0 <= n <= 255" (R65). -/
def dataFits (data : List Byte) : Bool := data.length ≤ 255

/-- The operation has an operation word. -/
def Instr.wf : Instr → Bool
  | .busReset => true
  | .crcCalc data => dataFits data
  | .crcCalcInit _ data => dataFits data
  | .crcCheck data => dataFits data
  | .familyCode _ => true
  | .cfgDecode _ => true
  | .cfgEncode _ => true
  | .spDecode _ => true
  | .spEncode _ _ _ => true
  | .convTime _ => true
  | .temperature _ => true
  | .readAddress => true
  | .matchAddress _ => true
  | .skipAddress => true
  | .searchAlarm => true
  | .search _ => true
  | .readScratchpad => true
  | .writeScratchpad _ _ _ => true
  | .convertTemperature => true
  | .loadScratchpad => true
  | .saveScratchpad => true
  | .readPowerSupply => true

end Sys2Proof
end

