-- ==== Sys2Proof/Decode.lean ====
section
/-! DEFINITION. Byte packing, the operation-word decoder (total on any byte string, rejecting by name) and the encoder,
both written from 30_encoding.md R63 to R68. -/

namespace Sys2Proof

/-! ## Byte packing -/

/-- Byte i of an address is bits `8*i+7` down to `8*i` (R48 (a), R90). -/
def addrByte (a : Addr) (i : Nat) : Byte := a.extractLsb' (8 * i) 8

/-- `bytes(a)`: the eight bytes of an address in wire order, byte 0 first (R90). -/
def addrBytes (a : Addr) : List Byte :=
  [addrByte a 0, addrByte a 1, addrByte a 2, addrByte a 3, addrByte a 4, addrByte a 5, addrByte a 6, addrByte a 7]

/-- `{a7, ..., a0}`: the address of eight bytes in wire order (R64 (a)). -/
def addrOfBytes (a0 a1 a2 a3 a4 a5 a6 a7 : Byte) : Addr := a7 ++ a6 ++ a5 ++ a4 ++ a3 ++ a2 ++ a1 ++ a0

/-- The nine bytes of an image, index 0 first (R47, R51). -/
def imageBytes (m : Image9) : List Byte := [m.b0, m.b1, m.b2, m.b3, m.b4, m.b5, m.b6, m.b7, m.b8]

/-- The three bytes of a write image, index 0 first (R52). -/
def writeBytes (m : Image3) : List Byte := [m.w0, m.w1, m.w2]

/-- The 2-bit resolution code of R96. -/
def resCode : Resolution → BitVec 2
  | .bits9 => 0#2
  | .bits10 => 1#2
  | .bits11 => 2#2
  | .bits12 => 3#2

/-- A resolution operand byte: the code in `r[1:0]` and `r[7:2]` = 0; `none` where a reserved bit is set (R65, R67 (b)). -/
def resOfOperand (r : Byte) : Option Resolution :=
  if r = 0#8 then some .bits9
  else if r = 1#8 then some .bits10
  else if r = 2#8 then some .bits11
  else if r = 3#8 then some .bits12
  else none

/-- The operand byte of a resolution: `r[7:2]` = 0, the code in `r[1:0]` (R65). -/
def operandOfRes (r : Resolution) : Byte := 0#6 ++ resCode r

/-! ## Decoding -/

/-- What the operation decoder finds in an operation word. -/
inductive Decoded where
  /-- an operation of R66 in its format of R65 -/
  | ok (i : Instr)
  /-- an undefined operation code or a nonzero reserved operand bit; the byte is byte 0 of the word (R67, R148) -/
  | illegal (op : Byte)
  /-- no byte 0, or not the number of bytes its format fixes (R65, R68): not an operation word (assumption 9) -/
  | malformed
  deriving DecidableEq, Repr

/-- Format `H0`: `[OP]`. -/
def parseH0 (i : Instr) : List Byte → Decoded
  | [] => .ok i
  | _ => .malformed

/-- Format `HA`: `[OP, a0, ..., a7]`. -/
def parseHA (mk : Addr → Instr) : List Byte → Decoded
  | [a0, a1, a2, a3, a4, a5, a6, a7] => .ok (mk (addrOfBytes a0 a1 a2 a3 a4 a5 a6 a7))
  | _ => .malformed

/-- Format `HW`: `[OP, th, tl, r]`. -/
def parseHW (op : Byte) (mk : Byte → Byte → Resolution → Instr) : List Byte → Decoded
  | [th, tl, r] =>
    match resOfOperand r with
    | some q => .ok (mk th tl q)
    | none => .illegal op
  | _ => .malformed

/-- Format `HR`: `[OP, r]`. -/
def parseHR (op : Byte) (mk : Resolution → Instr) : List Byte → Decoded
  | [r] =>
    match resOfOperand r with
    | some q => .ok (mk q)
    | none => .illegal op
  | _ => .malformed

/-- Format `HB`: `[OP, b]`. -/
def parseHB (mk : Byte → Instr) : List Byte → Decoded
  | [b] => .ok (mk b)
  | _ => .malformed

/-- Format `HS`: `[OP, n, d0, ..., dn-1]`. -/
def parseHS (mk : List Byte → Instr) : List Byte → Decoded
  | n :: data => if data.length = n.toNat then .ok (mk data) else .malformed
  | _ => .malformed

/-- Format `HI`: `[OP, seed, n, d0, ..., dn-1]`. -/
def parseHI (mk : Byte → List Byte → Instr) : List Byte → Decoded
  | seed :: n :: data => if data.length = n.toNat then .ok (mk seed data) else .malformed
  | _ => .malformed

/-- Format `H9`: `[OP, b0, ..., b8]`. -/
def parseH9 (mk : Image9 → Instr) : List Byte → Decoded
  | [b0, b1, b2, b3, b4, b5, b6, b7, b8] => .ok (mk ⟨b0, b1, b2, b3, b4, b5, b6, b7, b8⟩)
  | _ => .malformed

/-- Format `HF`: `[OP, f]`, `f[0]` the restart flag and `f[7:1]` = 0. -/
def parseHF (op : Byte) (mk : Bool → Instr) : List Byte → Decoded
  | [f] => if f = 0#8 then .ok (mk false) else if f = 1#8 then .ok (mk true) else .illegal op
  | _ => .malformed

/-- The operation decoder: byte 0 is compared with the operation codes of R66 under the mask `0xFF`; every other value is
illegal (R67 (a)). -/
def decode : List Byte → Decoded
  | [] => .malformed
  | op :: rest =>
    if op = 0x00#8 then parseH0 .busReset rest
    else if op = 0x01#8 then parseHS .crcCalc rest
    else if op = 0x02#8 then parseHI .crcCalcInit rest
    else if op = 0x03#8 then parseHS .crcCheck rest
    else if op = 0x04#8 then parseHA .familyCode rest
    else if op = 0x05#8 then parseHB .cfgDecode rest
    else if op = 0x06#8 then parseHR op .cfgEncode rest
    else if op = 0x07#8 then parseH9 .spDecode rest
    else if op = 0x08#8 then parseHW op .spEncode rest
    else if op = 0x09#8 then parseHR op .convTime rest
    else if op = 0x0A#8 then parseHA .temperature rest
    else if op = 0x33#8 then parseH0 .readAddress rest
    else if op = 0x55#8 then parseHA .matchAddress rest
    else if op = 0xCC#8 then parseH0 .skipAddress rest
    else if op = 0xEC#8 then parseH0 .searchAlarm rest
    else if op = 0xF0#8 then parseHF op .search rest
    else if op = 0xBE#8 then parseH0 .readScratchpad rest
    else if op = 0x4E#8 then parseHW op .writeScratchpad rest
    else if op = 0x44#8 then parseH0 .convertTemperature rest
    else if op = 0xB8#8 then parseH0 .loadScratchpad rest
    else if op = 0x48#8 then parseH0 .saveScratchpad rest
    else if op = 0xB4#8 then parseH0 .readPowerSupply rest
    else .illegal op

/-! ## Encoding -/

/-- The operation code of an operation (R66). -/
def opcode : Instr → Byte
  | .busReset => 0x00#8
  | .crcCalc _ => 0x01#8
  | .crcCalcInit _ _ => 0x02#8
  | .crcCheck _ => 0x03#8
  | .familyCode _ => 0x04#8
  | .cfgDecode _ => 0x05#8
  | .cfgEncode _ => 0x06#8
  | .spDecode _ => 0x07#8
  | .spEncode _ _ _ => 0x08#8
  | .convTime _ => 0x09#8
  | .temperature _ => 0x0A#8
  | .readAddress => 0x33#8
  | .matchAddress _ => 0x55#8
  | .skipAddress => 0xCC#8
  | .searchAlarm => 0xEC#8
  | .search _ => 0xF0#8
  | .readScratchpad => 0xBE#8
  | .writeScratchpad _ _ _ => 0x4E#8
  | .convertTemperature => 0x44#8
  | .loadScratchpad => 0xB8#8
  | .saveScratchpad => 0x48#8
  | .readPowerSupply => 0xB4#8

/-- The operand bytes of an operation, in its format of R65. -/
def operandBytes : Instr → List Byte
  | .busReset => []
  | .crcCalc data => BitVec.ofNat 8 data.length :: data
  | .crcCalcInit seed data => seed :: BitVec.ofNat 8 data.length :: data
  | .crcCheck data => BitVec.ofNat 8 data.length :: data
  | .familyCode a => addrBytes a
  | .cfgDecode b => [b]
  | .cfgEncode r => [operandOfRes r]
  | .spDecode m => imageBytes m
  | .spEncode th tl r => [th, tl, operandOfRes r]
  | .convTime r => [operandOfRes r]
  | .temperature a => addrBytes a
  | .readAddress => []
  | .matchAddress a => addrBytes a
  | .skipAddress => []
  | .searchAlarm => []
  | .search first => [if first then 1#8 else 0#8]
  | .readScratchpad => []
  | .writeScratchpad th tl r => [th, tl, operandOfRes r]
  | .convertTemperature => []
  | .loadScratchpad => []
  | .saveScratchpad => []
  | .readPowerSupply => []

/-- The operation word of an operation: its code, then its operands (R65). -/
def encode (i : Instr) : List Byte := opcode i :: operandBytes i

/-! ## The numbering of the opcode table -/

/-- How many bytes an operation word has, from its byte 0 and, for `HS` and `HI`, its length byte (R65, R68). A word
with an undefined operation code is taken as its byte 0 alone. -/
def wordLength (b0 b1 b2 : Byte) : Nat :=
  if b0 = 0x01#8 ∨ b0 = 0x03#8 then 2 + b1.toNat
  else if b0 = 0x02#8 then 3 + b2.toNat
  else if b0 = 0x04#8 ∨ b0 = 0x0A#8 ∨ b0 = 0x55#8 then 9
  else if b0 = 0x05#8 ∨ b0 = 0x06#8 ∨ b0 = 0x09#8 ∨ b0 = 0xF0#8 then 2
  else if b0 = 0x07#8 then 10
  else if b0 = 0x08#8 ∨ b0 = 0x4E#8 then 4
  else 1

/-- Byte i of the number `w` of `nbits` bits, every bit above them 0: the table numbers byte 0 as bits 7..0. -/
def tableByte (nbits w i : Nat) : Byte := BitVec.ofNat 8 ((w % 2 ^ nbits) >>> (8 * i))

/-- The operation word whose bits are `w` in the opcode table's numbering, the operand bytes above `nbits` zero, cut at the
length that its format fixes. -/
def tableWord (nbits w : Nat) : List Byte :=
  (List.range (wordLength (tableByte nbits w 0) (tableByte nbits w 1) (tableByte nbits w 2))).map (tableByte nbits w)

/-- The operation that `decode` reads from the word whose bits are `w` in the table's numbering. -/
def decodeTableWord (nbits w : Nat) : Option Instr :=
  match decode (tableWord nbits w) with
  | .ok i => some i
  | .illegal _ => none
  | .malformed => none

end Sys2Proof
end

