-- ==== Sys2Proof/Machine/State.lean ====
section
/-! DEFINITION. The whole state of the block as plain data (10_state.md R11 to R33), the agents' inputs it reads (the host's
operation words, the transport's answers: R10, R46), the record of its bus traffic (R54), the reset state (R160), and the
reasons a step can stop. -/

namespace Sys2Proof.Machine

/-- `PHASE` (R24). The reserved value 3 is never written, so the type has no such value (R33, U9). -/
inductive Phase where
  | none | selection | memory
  deriving DecidableEq, Repr

/-- `STATUS`: the ten codes of R140, in the order of their numbers. The reserved codes 10 to 15 are never written, so the
type has no such value (R33, U9). `deviceNotFound` is allocated and never raised by the block (R144, U22). -/
inductive Status where
  | ok | transport | crcMismatch | familyCode | configRegister | deviceNotFound | unimplemented | protocolViolation
  | illegalOperation | searchEnd
  deriving DecidableEq, Repr

/-- A request of the block to the transport or to the delay primitive (R40 to R45). -/
inductive BusRequest where
  /-- `BusReset()` (R41) -/
  | reset
  /-- `BusWrite(bytes)` (R42) -/
  | write (bytes : List Byte)
  /-- `BusRead(n)` (R43) -/
  | read (n : Nat)
  /-- `BusSearchNext(first)` (R44) -/
  | searchNext (first : Bool)
  /-- `Delay(us)` (R45) -/
  | delay (us : Nat)
  deriving DecidableEq, Repr

/-- An answer of the transport or of the delay primitive (R41 to R45). -/
inductive Answer where
  /-- `OK` of a reset, a write or a delay -/
  | ok
  /-- `ERR(e)` of a reset, a write or a read -/
  | err (e : TErr)
  /-- `OK(bytes)` of a read -/
  | bytes (bs : List Byte)
  /-- `ITEM(OK(a))` of an enumeration -/
  | item (a : Addr)
  /-- `ITEM(ERR(e))` of an enumeration -/
  | itemErr (e : TErr)
  /-- `END` of an enumeration -/
  | noMore
  deriving DecidableEq, Repr

/-- One answered request in the record of bus traffic: the request, its answer, and the bytes of a write that reached the
wire (all of them on `OK`, an unspecified front part on `ERR`: R42, U2; assumption 13). -/
structure BusEvent where
  req : BusRequest
  ans : Answer
  wire : List Byte
  deriving DecidableEq, Repr

/-- The state of the block and of the inputs it reads. -/
structure State where
  /-- RD0 `A`, 64 bits: the address result register (R11) -/
  a : Addr
  /-- RD1 `BUF[0..8]`, 9 x 8 bits: the receive buffer (R12) -/
  buf : Image9
  /-- RD2 `R`, 32 bits: the scalar result register (R13) -/
  r : BitVec 32
  /-- RD3 `TEMP`, 16 bits: the decoded raw temperature (R14) -/
  temp : BitVec 16
  /-- RD4 `TH`, 8 bits: the decoded alarm-high trigger (R15) -/
  th : Byte
  /-- RD5 `TL`, 8 bits: the decoded alarm-low trigger (R15) -/
  tl : Byte
  /-- RD6 `CFG`, 8 bits: the decoded configuration register (R16) -/
  cfg : Byte
  /-- RC0 `STATUS`, 4 bits: the result of the last operation (R25, R140) -/
  status : Status
  /-- RC1 `INFO`, 8 bits: the value an error carries (R26) -/
  info : Byte
  /-- RC2 `PHASE`, 2 bits: the protocol phase (R24) -/
  phase : Phase
  /-- RC3 bit 3, `SO`: search open (R23) -/
  so : Bool
  /-- RC3 bit 2, `SPV`: scratchpad valid (R22) -/
  spv : Bool
  /-- RC3 bit 1, `AV`: address valid (R21) -/
  av : Bool
  /-- RC3 bit 0, `BUSY`: an operation is in progress (R20) -/
  busy : Bool
  /-- RC4 `CRC`, 8 bits: the CRC unit's shift register (R27) -/
  crc : Byte
  /-- RC5 `TERR`: the payload of the last transport error (R28) -/
  terr : TErr
  /-- RS0 `CUR_OP`, 8 bits: the operation code in progress (R30) -/
  curOp : Byte
  /-- RS1 `OPA`, 64 bits: the address operand latch (R30) -/
  opa : Addr
  /-- RS2 `OPW[0..2]`, 3 x 8 bits: the scratchpad-write latches (R30) -/
  opw : Image3
  /-- RS3 `SSTEP`, 4 bits: the sequencer's step counter (R31) -/
  sstep : BitVec 4
  /-- The request port: the request that stands unanswered, `none` where there is none (R40, R31). -/
  reqPort : Option BusRequest
  /-- The host's operation words, in the order it presents them; the first stands at the port until the block accepts it
  (R10, R54, R65, R179). An input. -/
  hostOps : List (List Byte)
  /-- The answers of the transport and the delay primitive, in the order they arrive (R10, R46). An input under no law (assumption 3). -/
  answers : List Answer
  /-- The record of bus traffic: every answered request, oldest first (R54, U2). The model's own. -/
  bus : List BusEvent
  /-- The counter of free values drawn so far (U1, U2). The model's own. -/
  draws : Nat
  deriving DecidableEq, Repr

/-- Why a step stops with a fault. Neither is raised by a meaning: `exec` answers a next state for every operation. -/
inductive Fault where
  /-- Raised by `step` where the block waits for an answer and none that fits its request is there: "the block stays at
  the step with `BUSY` = 1 for ever; a model has no step" (U11, R179; assumption 5). Safe: the model stops where the hardware waits. -/
  | noAnswer
  /-- Raised by `step` in a state with `BUSY` = 1 whose `CUR_OP` and `SSTEP` name no step of a bus operation. No rule
  produces such a state (assumption 5). Safe: the model stops. -/
  | noSuchStep
  deriving DecidableEq, Repr

/-- Why a step is refused. -/
inductive Refusal where
  /-- Raised by `exec` for an operation that has no meaning yet. No arm is left that does. Safe. -/
  | notModelled (mnemonic : String)
  /-- Raised by `step` where the byte string at the port has not the length its format fixes (R65, R68): it is no operation
  word, and the spec gives it no effect (assumption 9). Safe: the model stops. -/
  | malformedWord
  deriving DecidableEq, Repr

/-- The block after its reset (R160). `PHASE` = `NONE`, `FLAGS` = 0, `STATUS` = `OK`, `INFO` = 0, `CRC` = 0, `SSTEP` = 0 are
the spec's. `A`, `BUF`, `R`, `TEMP`, `TH`, `TL`, `CFG`, `TERR`, `CUR_OP`, `OPA`, `OPW` are unspecified there: zero is the
model's (DESIGN CHOICE, assumption 1). The block is idle: no operation word, no answer, no traffic (assumption 2); the draw
counter starts at 0 (DESIGN CHOICE, assumption 4). -/
def State.reset : State where
  a := 0#64
  buf := ⟨0#8, 0#8, 0#8, 0#8, 0#8, 0#8, 0#8, 0#8, 0#8⟩
  r := 0#32
  temp := 0#16
  th := 0#8
  tl := 0#8
  cfg := 0#8
  status := .ok
  info := 0x00#8
  phase := .none
  so := false
  spv := false
  av := false
  busy := false
  crc := 0x00#8
  terr := TErr.reset
  curOp := 0#8
  opa := 0#64
  opw := ⟨0#8, 0#8, 0#8⟩
  sstep := 0#4
  reqPort := none
  hostOps := []
  answers := []
  bus := []
  draws := 0

end Sys2Proof.Machine
end

