-- ==== Sys2Proof/Machine/Operands.lean ====
section
/-! DEFINITION. The operand and field forms of the spec: address fields (41_address.md R90), configuration byte and
resolution (30_encoding.md R63, R64; 42_scratchpad.md R96, R99), temperature and alarms (R101 to R103), the write image
(R52, R105), the receive buffer (R12). -/

namespace Sys2Proof.Machine

/-! ## Address fields (R90) -/

/-- `family(a) = a[7:0]`. -/
def familyOf (a : Addr) : Byte := addrByte a 0

/-- `serial(a) = a[55:8]`. -/
def serialOf (a : Addr) : BitVec 48 := a.extractLsb' 8 48

/-- `crcbyte(a) = a[63:56]`. -/
def crcByteOf (a : Addr) : Byte := addrByte a 7

/-! ## Configuration byte and resolution -/

/-- `cfg_of(r) = {0b0, r, 0b11111}` (R63, R96). -/
def cfgOf (res : Resolution) : Byte := 0b0#1 ++ resCode res ++ 0b11111#5

/-- `b[6:5]`: the resolution code of a configuration byte, and `RES` of the register `CFG` (R16, R63). -/
def resBits (b : Byte) : BitVec 2 := b.extractLsb' 5 2

/-- The write image of a resolution and two alarm bytes, as `OPW` latches it (R52, R65 `HW`). -/
def writeImage (th tl : Byte) (res : Resolution) : Image3 := ⟨th, tl, cfgOf res⟩

/-- `{0x00, OPW[2], OPW[1], OPW[0]}` (R105, R48 (c)). -/
def packWriteImage (m : Image3) : BitVec 32 := 0x00#8 ++ m.w2 ++ m.w1 ++ m.w0

/-- The conversion time in microseconds, `750000 >> (3 - r)` (R107). -/
def convTimeOf (res : Resolution) : BitVec 32 := BitVec.ofNat 32 (Config.tConvMax >>> (3 - (resCode res).toNat))

/-- How many low bits of `TEMP` are not significant at a resolution (R99). The decoder does not mask them (R101). -/
def insignificantBits : Resolution → Nat
  | .bits9 => 3
  | .bits10 => 2
  | .bits11 => 1
  | .bits12 => 0

/-! ## Temperature -/

/-- `TEMP` from image bytes 0 and 1: `{b0, b1}` where byte 0 is the most significant byte, `{b1, b0}` under the other
setting of `TEMP_BYTE0_IS_MSB` (R101). -/
def tempOf (byte0IsMsb : Bool) (b0 b1 : Byte) : BitVec 16 := if byte0IsMsb then b0 ++ b1 else b1 ++ b0

/-- The temperature in degrees: `signed(TEMP) / 16`, exactly (R14, R101). -/
def degreesOf (t : BitVec 16) : ℚ := (t.toInt : ℚ) / 16

/-- The binary32 image of the temperature (R103, G4): sign, exponent and fraction of `signed(TEMP) / 16`, no rounding. No
register holds it. The binary32 encoding is general knowledge (PRESUMED, assumption 11). -/
def f32Of (t : BitVec 16) : BitVec 32 :=
  let m := t.toInt.natAbs
  let k := m.log2
  if m = 0 then 0#32
  else (if t.toInt < 0 then 1#1 else 0#1) ++ BitVec.ofNat 8 (123 + k) ++ BitVec.ofNat 23 ((m - 2 ^ k) <<< (23 - k))

/-! ## The receive buffer -/

/-- `BUF[i] <- b[i]` for every i below the number of bytes received; the others keep their contents (R12, R111 s5). -/
def fillImage (bs : List Byte) (old : Image9) : Image9 where
  b0 := bs.getD 0 old.b0
  b1 := bs.getD 1 old.b1
  b2 := bs.getD 2 old.b2
  b3 := bs.getD 3 old.b3
  b4 := bs.getD 4 old.b4
  b5 := bs.getD 5 old.b5
  b6 := bs.getD 6 old.b6
  b7 := bs.getD 7 old.b7
  b8 := bs.getD 8 old.b8

/-- `n` free bytes, drawn from the counter `k` on (U1). -/
def freeBytes (k n : Nat) : List Byte := (List.range n).map fun i => Config.freeByte (k + i)

/-- `BUF[0..n-1]` in index order. -/
def bufFront (n : Nat) (m : Image9) : List Byte := (imageBytes m).take n

/-- `{BUF[7], ..., BUF[0]}` (R111 s7, R64 (a)). -/
def addrOfImage (m : Image9) : Addr := addrOfBytes m.b0 m.b1 m.b2 m.b3 m.b4 m.b5 m.b6 m.b7

end Sys2Proof.Machine
end

