-- ==== Sys2Proof/Machine/Flags.lean ====
section
/-! DEFINITION. The numbers of the status and phase registers (R24, R140), the flag register (R32), and the three
conditions that decide an operation's outcome: the configuration check (R97), the family check (R93), the CRC check (R83). -/

namespace Sys2Proof.Machine

/-- The code of a status (R140). -/
def statusCode : Status → BitVec 4
  | .ok => 0#4
  | .transport => 1#4
  | .crcMismatch => 2#4
  | .familyCode => 3#4
  | .configRegister => 4#4
  | .deviceNotFound => 5#4
  | .unimplemented => 6#4
  | .protocolViolation => 7#4
  | .illegalOperation => 8#4
  | .searchEnd => 9#4

/-- Which statuses are errors: all but `OK` and `SEARCH_END` (R140). -/
def statusIsError : Status → Bool
  | .ok => false
  | .searchEnd => false
  | .transport => true
  | .crcMismatch => true
  | .familyCode => true
  | .configRegister => true
  | .deviceNotFound => true
  | .unimplemented => true
  | .protocolViolation => true
  | .illegalOperation => true

/-- The value of a phase (R24). -/
def phaseCode : Phase → BitVec 2
  | .none => 0#2
  | .selection => 1#2
  | .memory => 2#2

/-- `FLAGS` = {`SO`, `SPV`, `AV`, `BUSY`}, bit 3 down to bit 0 (R32, RC3). -/
def flagsOf (s : State) : BitVec 4 :=
  BitVec.ofBool s.so ++ BitVec.ofBool s.spv ++ BitVec.ofBool s.av ++ BitVec.ofBool s.busy

/-- A configuration byte is valid exactly when `(b & 0x9F) == 0x1F` (R63, R97). -/
def cfgValid (b : Byte) : Bool := (b &&& Config.cfgFixedMask) == Config.cfgFixedBits

/-- `family_ok(a)`: `family(a) == 0x28` (R93). -/
def familyOk (a : Addr) : Bool := familyOf a == Config.family

/-- An inbound frame is accepted exactly when `crc8(0x00, f) == 0x00` (R83). -/
def frameOk (f : List Byte) : Bool := crc8 Config.crcSeed f == 0x00#8

end Sys2Proof.Machine
end

