-- ==== Sys2Proof/Machine/Ops.lean ====
section
/-! DEFINITION. The shared operations of the sequencer: raising an error (60_exceptions.md R145), ending, accepting an
operation (10_state.md R30, R31), making a bus request and taking its answer (20_memory.md R40 to R45), and the numbered
steps that several operations share. An operation is a list of numbered steps; `runSteps` runs them in order (R31). -/

namespace Sys2Proof.Machine

/-- How one numbered step of an operation ends. -/
inductive MicroResult where
  /-- the step ended; the next one follows -/
  | go (s : State)
  /-- the step ended the operation, by `raise` or by `end` -/
  | stop (s : State)
  /-- the step stands at its bus request, which is not answered yet: nothing of it has happened but the request (R31, R8) -/
  | wait (s : State)
  deriving DecidableEq, Repr

/-- A numbered step of an operation. -/
abbrev MicroStep := State → MicroResult

/-! ## Ending an operation -/

/-- `raise K(info)`: `STATUS <- K; INFO <- info; SSTEP <- 0; BUSY <- 0`, and nothing else (R145). This is all that taking
an exception is on this hardware: no state is saved, no mode switched, and there is no return from it (R153). -/
def raise (k : Status) (info : Byte) (s : State) : State :=
  { s with status := k, info := info, sstep := 0#4, busy := false }

/-- The end of an operation's last step, and `end` in R130: `SSTEP <- 0`, `BUSY <- 0` (R31). -/
def endOp (s : State) : State := { s with sstep := 0#4, busy := false }

/-- `STATUS <- K; INFO <- 0x00` of a step that reports without an error (`OK`, `SEARCH_END`). -/
def report (k : Status) (s : State) : State := { s with status := k, info := 0x00#8 }

/-! ## Accepting and sequencing -/

/-- The block accepts an operation: `BUSY <- 1`, `SSTEP <- 1`, `CUR_OP <- OP` (R20, R30, R31). No request stands at the
request port. -/
def accept (op : Byte) (s : State) : State :=
  { s with busy := true, sstep := 1#4, curOp := op, reqPort := none }

/-- The address operand is latched: `OPA = {a7, ..., a0}` (R30, R65 `HA`). Operations of other formats leave the latch
(DEDUCED, assumption 8). -/
def latchAddr (a : Addr) (s : State) : State := { s with opa := a }

/-- The scratchpad-write operand is latched in `OPW[0..2]` (R30, R65 `HW`). -/
def latchWrite (m : Image3) (s : State) : State := { s with opw := m }

/-- Runs the steps from number `n` on: after a step that ends without a `raise`, `SSTEP <- n + 1`; after the last,
`SSTEP <- 0` and `BUSY <- 0` (R31). A step that waits leaves `BUSY` = 1 and `SSTEP` = n, with none of its own writes made
(R8; DEDUCED, assumptions 5 and 12). -/
def runSteps : List MicroStep → Nat → State → State
  | [], _, s => endOp s
  | f :: fs, n, s =>
    match f s with
    | .go t => runSteps fs (n + 1) { t with sstep := BitVec.ofNat 4 (n + 1) }
    | .stop t => t
    | .wait t => t

/-- An operation from its acceptance to its end, or to the first request that is not answered yet. -/
def runOp (op : Byte) (steps : List MicroStep) (s : State) : State := runSteps steps 1 (accept op s)

/-! ## Bus requests -/

/-- An answer that says `OK` or `ERR(e)`: the answers of `BusReset` and `BusWrite` (R41, R42). -/
def ackOf : Answer → Option (Option TErr)
  | .ok => some none
  | .err e => some (some e)
  | .bytes _ => none
  | .item _ => none
  | .itemErr _ => none
  | .noMore => none

/-- The answers of `BusRead(n)`: `OK(bytes)` with exactly n bytes, or `ERR(e)` (R43). -/
def bytesOf (n : Nat) : Answer → Option (Except TErr (List Byte))
  | .ok => none
  | .err e => some (.error e)
  | .bytes bs => if bs.length = n then some (.ok bs) else none
  | .item _ => none
  | .itemErr _ => none
  | .noMore => none

/-- The answers of `BusSearchNext`: `ITEM(OK(a))`, `ITEM(ERR(e))`, or `END` as `none` (R44). -/
def itemOf : Answer → Option (Option (Except TErr Addr))
  | .ok => none
  | .err _ => none
  | .bytes _ => none
  | .item a => some (some (.ok a))
  | .itemErr e => some (some (.error e))
  | .noMore => some none

/-- The answer of `Delay`: `OK`, and no error answer (R45). -/
def delayOf : Answer → Option Unit
  | .ok => some ()
  | .err _ => none
  | .bytes _ => none
  | .item _ => none
  | .itemErr _ => none
  | .noMore => none

/-- The bytes of an answered request that reached the wire: all of a write answered `OK`, a front part of free length of a
write answered `ERR` (R42, U2), none of any other request. -/
def wireOf (draws : Nat) : BusRequest → Answer → List Byte
  | .write bytes, .err _ => bytes.take (Config.freeSentLength draws)
  | .write bytes, _ => bytes
  | _, _ => []

/-- How many free values an answered request draws: one for a failed write (U2), n for a failed `BusRead(n)` (U1). -/
def drawsOf : BusRequest → Answer → Nat
  | .write _, .err _ => 1
  | .read n, .err _ => n
  | _, _ => 0

/-- The request stands at the request port, unanswered. -/
def offer (q : BusRequest) (s : State) : State := { s with reqPort := some q }

/-- The first answer at hand is taken as the answer to the request: the port is free again, and the exchange joins the
record of bus traffic (R54). -/
def takeAnswer (q : BusRequest) (ans : Answer) (rest : List Answer) (s : State) : State :=
  { s with
    answers := rest
    reqPort := none
    bus := s.bus ++ [⟨q, ans, wireOf s.draws q ans⟩]
    draws := s.draws + drawsOf q ans }

/-- Makes a request and goes on with its answer. `view` reads the answers that fit the request. Where the first answer at
hand does not fit, or there is none, the request is not answered and the step waits (R31, R40, U11; DESIGN CHOICE,
assumption 3). -/
def ask {α : Type} (q : BusRequest) (view : Answer → Option α) (k : α → MicroStep) : MicroStep := fun s =>
  match s.answers with
  | [] => .wait (offer q s)
  | ans :: rest =>
    match view ans with
    | none => .wait (offer q s)
    | some v => k v (takeAnswer q ans rest s)

/-- `TERR <- e; raise TRANSPORT` (R141). -/
def transportError (e : TErr) (s : State) : State := raise .transport 0x00#8 { s with terr := e }

/-- The end of a step that asked for an acknowledgement: the writes `before` are made whatever the answer, `TRANSPORT` is
raised on `ERR(e)`, and the writes `after` are made on `OK`. -/
def ackStep (q : BusRequest) (before after onErr : State → State) : MicroStep :=
  ask q ackOf fun v s =>
    match v with
    | some e => .stop (transportError e (onErr (before s)))
    | none => .go (after (before s))

/-! ## Steps that several operations share -/

/-- A step that only writes registers. -/
def regs (f : State → State) : MicroStep := fun s => .go (f s)

/-- `PHASE <- p`. -/
def setPhase (p : Phase) (s : State) : State := { s with phase := p }

/-- `phase_check(OP, need)`: on a mismatch `PHASE <- NONE; raise PROTOCOL_VIOLATION(OP)`, with no bus request (R147). -/
def phaseCheck (op : Byte) (need : Phase) : MicroStep := fun s =>
  if s.phase = need then .go s else .stop (raise .protocolViolation op (setPhase .none s))

/-- `raise UNIMPLEMENTED(OP)` of a stub (R146). -/
def stub (op : Byte) : MicroStep := fun s => .stop (raise .unimplemented op s)

/-- `BusReset()`: on `ERR(e)`, `PHASE <- NONE; TERR <- e; raise TRANSPORT`; on `OK` the writes `after` (R110 s2, R131 s2). -/
def busResetStep (after : State → State) : MicroStep := ackStep .reset id after (setPhase .none)

/-- `BusWrite(bytes)`: on `ERR(e)`, `TERR <- e; raise TRANSPORT` (R42, R141). -/
def busWriteStep (bytes : List Byte) (before after : State → State) : MicroStep := ackStep (.write bytes) before after id

/-- `BusRead(n)` into `BUF[0..n-1]`: on `ERR(e)`, those bytes hold unspecified values (R12, R43, U1), `TERR <- e` and
`TRANSPORT` is raised. The free bytes are those the exchange has just drawn. -/
def busReadStep (n : Nat) : MicroStep :=
  ask (.read n) (bytesOf n) fun v s =>
    match v with
    | .error e => .stop (transportError e { s with buf := fillImage (freeBytes (s.draws - n) n) s.buf })
    | .ok bs => .go { s with buf := fillImage bs s.buf }

/-- `Delay(us)` (R45). -/
def delayStep (us : Nat) : MicroStep := ask (.delay us) delayOf fun _ s => .go s

/-- `CRC <- crc8(seed, bytes)`: the register is loaded with the seed and fed the bytes (R27, R81). -/
def feedCrc (seed : Byte) (bs : List Byte) (s : State) : State := { s with crc := crc8 seed bs }

/-- `if CRC != 0x00: raise CRC_MISMATCH(CRC)` (R87 s4). -/
def crcVerdict : MicroStep := fun s => if s.crc = 0x00#8 then .go s else .stop (raise .crcMismatch s.crc s)

/-- The CRC check of `BUF[0..n-1]`, one step: the register is fed, then judged (R89, R111 s6, R120 s6). -/
def crcCheckStep (n : Nat) : MicroStep := fun s => crcVerdict (feedCrc Config.crcSeed (bufFront n s.buf) s)

/-- `if (BUF[4] & 0x9F) != 0x1F: raise CONFIG_REGISTER(BUF[4])` (R104 s2, R120 s7). -/
def cfgCheckStep : MicroStep := fun s =>
  if cfgValid s.buf.b4 then .go s else .stop (raise .configRegister s.buf.b4 s)

/-- `TEMP <- {BUF[0], BUF[1]}; TH <- BUF[2]; TL <- BUF[3]; CFG <- BUF[4]; SPV <- 1` (R104 s3, R120 s8), with the byte order
of `TEMP_BYTE0_IS_MSB` (R101). -/
def loadDecoded (s : State) : State :=
  { s with
    temp := tempOf Config.tempByte0IsMsb s.buf.b0 s.buf.b1
    th := s.buf.b2
    tl := s.buf.b3
    cfg := s.buf.b4
    spv := true }

/-- `R <- v`, zero-extended to 32 bits (R13). -/
def setR {w : Nat} (v : BitVec w) (s : State) : State := { s with r := v.setWidth 32 }

/-- `STATUS <- OK; INFO <- 0x00`. -/
def succeed : MicroStep := regs (report .ok)

end Sys2Proof.Machine
end

