-- ==== Sys2Proof/Machine/AddressUnit.lean ====
section
/-! DEFINITION. The operation of the address unit (41_address.md R92). -/

namespace Sys2Proof.Machine

/-- `FAMILY_CODE a` (R92): no comparison with `0x28`, no CRC check. -/
def execFamilyCode (a : Addr) (s : State) : Host.Outcome State Fault Refusal :=
  .next (runOp 0x04#8 [ regs fun s => report .ok (setR (familyOf s.opa) s) ] (latchAddr a s))

end Sys2Proof.Machine
end

