-- ==== Sys2Proof/Machine/CrcUnit.lean ====
section
/-! DEFINITION. The three operations of the CRC8 unit (40_crc8.md R85 to R87). -/

namespace Sys2Proof.Machine

/-- `CRC_CALC data` (R85). -/
def execCrcCalc (data : List Byte) (s : State) : Host.Outcome State Fault Refusal :=
  .next (runOp 0x01#8
    [ regs fun s => { s with crc := Config.crcSeed },
      regs fun s => feedCrc s.crc data s,
      regs fun s => report .ok (setR s.crc s) ] s)

/-- `CRC_CALC_INIT seed, data` (R86). -/
def execCrcCalcInit (seed : Byte) (data : List Byte) (s : State) : Host.Outcome State Fault Refusal :=
  .next (runOp 0x02#8
    [ regs fun s => { s with crc := seed },
      regs fun s => feedCrc s.crc data s,
      regs fun s => report .ok (setR s.crc s) ] s)

/-- `CRC_CHECK data` (R87): `R` is written before the verdict. -/
def execCrcCheck (data : List Byte) (s : State) : Host.Outcome State Fault Refusal :=
  .next (runOp 0x03#8
    [ regs fun s => { s with crc := Config.crcSeed },
      regs fun s => feedCrc s.crc data s,
      regs fun s => setR s.crc s,
      crcVerdict,
      succeed ] s)

end Sys2Proof.Machine
end

