-- ==== Sys2Proof/Machine/MemoryCommands.lean ====
section
/-! DEFINITION. The six memory commands (44_memory_commands.md R120 to R125). -/

namespace Sys2Proof.Machine

/-- Steps s1 to s9 of `READ_SCRATCHPAD` (R120): the CRC check comes before the configuration check. -/
def stepsReadScratchpad : List MicroStep :=
  [ regs fun s => { s with spv := false },
    phaseCheck 0xBE#8 .memory,
    regs (setPhase .none),
    busWriteStep [Config.cmdReadScratchpad] id id,
    busReadStep Config.nSp,
    crcCheckStep Config.nSp,
    cfgCheckStep,
    regs loadDecoded,
    succeed ]

/-- `READ_SCRATCHPAD` (R120). -/
def execReadScratchpad (s : State) : Host.Outcome State Fault Refusal := .next (runOp 0xBE#8 stepsReadScratchpad s)

/-- Steps s1 to s4 of `WRITE_SCRATCHPAD` (R121). The frame `W4` is made from the latches `OPW` when its step runs. -/
def stepsWriteScratchpad : List MicroStep :=
  [ phaseCheck 0x4E#8 .memory,
    regs (setPhase .none),
    fun s => busWriteStep (Config.cmdWriteScratchpad :: writeBytes s.opw) id id s,
    succeed ]

/-- `WRITE_SCRATCHPAD th, tl, r` (R121). -/
def execWriteScratchpad (th tl : Byte) (res : Resolution) (s : State) : Host.Outcome State Fault Refusal :=
  .next (runOp 0x4E#8 stepsWriteScratchpad (latchWrite (writeImage th tl res) s))

/-- Steps s1 to s5 of `CONVERT_TEMPERATURE` (R122): the wait is the 12-bit time whatever the resolution. -/
def stepsConvertTemperature : List MicroStep :=
  [ phaseCheck 0x44#8 .memory,
    regs (setPhase .none),
    busWriteStep [Config.cmdConvertTemperature] id id,
    delayStep Config.tConvMax,
    succeed ]

/-- `CONVERT_TEMPERATURE` (R122). -/
def execConvertTemperature (s : State) : Host.Outcome State Fault Refusal :=
  .next (runOp 0x44#8 stepsConvertTemperature s)

/-- `LOAD_SCRATCHPAD` (R123): a stub. -/
def execLoadScratchpad (s : State) : Host.Outcome State Fault Refusal :=
  .next (runOp 0xB8#8 [ phaseCheck 0xB8#8 .memory, regs (setPhase .none), stub 0xB8#8 ] s)

/-- `SAVE_SCRATCHPAD` (R124): a stub. -/
def execSaveScratchpad (s : State) : Host.Outcome State Fault Refusal :=
  .next (runOp 0x48#8 [ phaseCheck 0x48#8 .memory, regs (setPhase .none), stub 0x48#8 ] s)

/-- `READ_POWER_SUPPLY` (R125): a stub of the memory phase (conflict C1). -/
def execReadPowerSupply (s : State) : Host.Outcome State Fault Refusal :=
  .next (runOp 0xB4#8 [ phaseCheck 0xB4#8 .memory, regs (setPhase .none), stub 0xB4#8 ] s)

end Sys2Proof.Machine
end

