-- ==== Sys2Proof/Machine/ScratchpadUnit.lean ====
section
/-! DEFINITION. The five operations of the scratchpad decoder (42_scratchpad.md R97, R98, R104, R105, R107). -/

namespace Sys2Proof.Machine

/-- `CFG_DECODE b` (R97): on the error `R` is unchanged. -/
def execCfgDecode (b : Byte) (s : State) : Host.Outcome State Fault Refusal :=
  .next (runOp 0x05#8
    [ fun s => if cfgValid b then .go s else .stop (raise .configRegister b s),
      regs fun s => report .ok (setR (resBits b) s) ] s)

/-- `CFG_ENCODE r` (R98). -/
def execCfgEncode (res : Resolution) (s : State) : Host.Outcome State Fault Refusal :=
  .next (runOp 0x06#8 [ regs fun s => report .ok (setR (cfgOf res) s) ] s)

/-- `SP_DECODE b0, ..., b8` (R104): no CRC check. -/
def execSpDecode (img : Image9) (s : State) : Host.Outcome State Fault Refusal :=
  .next (runOp 0x07#8
    [ regs fun s => { s with spv := false, buf := img },
      cfgCheckStep,
      regs loadDecoded,
      succeed ] s)

/-- `SP_ENCODE th, tl, r` (R105). -/
def execSpEncode (th tl : Byte) (res : Resolution) (s : State) : Host.Outcome State Fault Refusal :=
  .next (runOp 0x08#8
    [ regs fun s => report .ok (setR (packWriteImage s.opw) s) ] (latchWrite (writeImage th tl res) s))

/-- `CONV_TIME r` (R107). -/
def execConvTime (res : Resolution) (s : State) : Host.Outcome State Fault Refusal :=
  .next (runOp 0x09#8 [ regs fun s => report .ok (setR (convTimeOf res) s) ] s)

end Sys2Proof.Machine
end

