-- ==== Sys2Proof/Machine/Selection.lean ====
section
/-! DEFINITION. The bus reset and the selection commands (43_selection_commands.md R110 to R114): the numbered steps of
each, and its meaning. Steps that ask the transport are the ones a waiting operation can be resumed at. -/

namespace Sys2Proof.Machine

/-- Steps s1 to s3 of `BUS_RESET` (R110). -/
def stepsBusReset : List MicroStep :=
  [ regs fun s => { s with so := false },
    busResetStep id,
    regs fun s => report .ok (setPhase .selection s) ]

/-- `BUS_RESET` (R110): valid in every phase. -/
def execBusReset (s : State) : Host.Outcome State Fault Refusal := .next (runOp 0x00#8 stepsBusReset s)

/-- Steps s1 to s8 of `READ_ADDRESS` (R111). -/
def stepsReadAddress : List MicroStep :=
  [ regs fun s => { s with av := false },
    phaseCheck 0x33#8 .selection,
    regs (setPhase .none),
    busWriteStep [Config.cmdReadAddress] id id,
    busReadStep Config.nAddr,
    crcCheckStep Config.nAddr,
    regs fun s => { s with a := addrOfImage s.buf, av := true },
    succeed ]

/-- `READ_ADDRESS` (R111): any family code is accepted once the CRC check has passed. -/
def execReadAddress (s : State) : Host.Outcome State Fault Refusal := .next (runOp 0x33#8 stepsReadAddress s)

/-- Steps s1 to s4 of `MATCH_ADDRESS` (R112). The frame `W9` is made from the latch `OPA` when its step runs. -/
def stepsMatchAddress : List MicroStep :=
  [ phaseCheck 0x55#8 .selection,
    regs (setPhase .none),
    fun s => busWriteStep (Config.cmdMatchAddress :: addrBytes s.opa) id id s,
    regs fun s => report .ok (setPhase .memory s) ]

/-- `MATCH_ADDRESS a` (R112): the address is sent as given. -/
def execMatchAddress (a : Addr) (s : State) : Host.Outcome State Fault Refusal :=
  .next (runOp 0x55#8 stepsMatchAddress (latchAddr a s))

/-- Steps s1 to s4 of `SKIP_ADDRESS` (R113). -/
def stepsSkipAddress : List MicroStep :=
  [ phaseCheck 0xCC#8 .selection,
    regs (setPhase .none),
    busWriteStep [Config.cmdSkipAddress] id id,
    regs fun s => report .ok (setPhase .memory s) ]

/-- `SKIP_ADDRESS` (R113). -/
def execSkipAddress (s : State) : Host.Outcome State Fault Refusal := .next (runOp 0xCC#8 stepsSkipAddress s)

/-- `SEARCH_ALARM` (R114): a stub, after the phase check and the consumption of the phase. -/
def execSearchAlarm (s : State) : Host.Outcome State Fault Refusal :=
  .next (runOp 0xEC#8 [ phaseCheck 0xEC#8 .selection, regs (setPhase .none), stub 0xEC#8 ] s)

end Sys2Proof.Machine
end

