-- ==== Sys2Proof/Machine/Sequences.lean ====
section
/-! DEFINITION. The two composite operations (45_facade_sequences.md R130, R131). -/

namespace Sys2Proof.Machine

/-- Step s2 of `SEARCH`: `next` with no enumeration open ends with `SEARCH_END` and no bus request (R130). -/
def searchOpenCheck (first : Bool) : MicroStep := fun s =>
  if first = false ∧ s.so = false then .stop (endOp (report .searchEnd s)) else .go s

/-- Step s3 of `SEARCH`: one item of the enumeration (R130). `SO <- 1` unless the enumeration is at its end. -/
def searchItemStep (first : Bool) : MicroStep :=
  ask (.searchNext first) itemOf fun v s =>
    match v with
    | none => .stop (endOp (report .searchEnd { s with so := false }))
    | some (.error e) => .stop (transportError e { s with so := true })
    | some (.ok a) => .go { s with so := true, a := a }

/-- Step s4 of `SEARCH`: the family check (R93, R130). -/
def searchFamilyCheck : MicroStep := fun s =>
  if familyOk s.a then .go s else .stop (raise .familyCode (familyOf s.a) s)

/-- Steps s1 to s5 of `SEARCH` (R130). -/
def stepsSearch (first : Bool) : List MicroStep :=
  [ regs fun s => { s with av := false, phase := .none },
    searchOpenCheck first,
    searchItemStep first,
    searchFamilyCheck,
    regs fun s => report .ok { s with av := true } ]

/-- `SEARCH f` (R130): valid in every phase. -/
def execSearch (first : Bool) (s : State) : Host.Outcome State Fault Refusal :=
  .next (runOp 0xF0#8 (stepsSearch first) s)

/-- The frame `W9` of the latched address, with the phase writes of steps s3 and s7 of `TEMPERATURE` (R131). -/
def temperatureSelect : MicroStep := fun s =>
  busWriteStep (Config.cmdMatchAddress :: addrBytes s.opa) (setPhase .none) (setPhase .memory) s

/-- Steps s1 to s13 of `TEMPERATURE` (R131). -/
def stepsTemperature : List MicroStep :=
  [ regs fun s => { s with spv := false, so := false },
    busResetStep (setPhase .selection),
    temperatureSelect,
    busWriteStep [Config.cmdConvertTemperature] (setPhase .none) id,
    delayStep Config.tConvMax,
    busResetStep (setPhase .selection),
    temperatureSelect,
    busWriteStep [Config.cmdReadScratchpad] (setPhase .none) id,
    busReadStep Config.nSp,
    crcCheckStep Config.nSp,
    cfgCheckStep,
    regs loadDecoded,
    succeed ]

/-- `TEMPERATURE a` (R131): valid in every phase. -/
def execTemperature (a : Addr) (s : State) : Host.Outcome State Fault Refusal :=
  .next (runOp 0x0A#8 stepsTemperature (latchAddr a s))

end Sys2Proof.Machine
end

