-- ==== Sys2Proof/Machine/Dispatch.lean ====
section
/-! DEFINITION. One arm per operation. -/

namespace Sys2Proof.Machine

/-- The meaning of an operation, from its acceptance to its end or to the first request that is not answered yet. -/
def exec (i : Instr) (s : State) : Host.Outcome State Fault Refusal :=
  match i with
  | .busReset => Sys2Proof.Machine.execBusReset s
  | .crcCalc data => Sys2Proof.Machine.execCrcCalc data s
  | .crcCalcInit seed data => Sys2Proof.Machine.execCrcCalcInit seed data s
  | .crcCheck data => Sys2Proof.Machine.execCrcCheck data s
  | .familyCode a => Sys2Proof.Machine.execFamilyCode a s
  | .cfgDecode b => Sys2Proof.Machine.execCfgDecode b s
  | .cfgEncode res => Sys2Proof.Machine.execCfgEncode res s
  | .spDecode img => Sys2Proof.Machine.execSpDecode img s
  | .spEncode th tl res => Sys2Proof.Machine.execSpEncode th tl res s
  | .convTime res => Sys2Proof.Machine.execConvTime res s
  | .temperature a => Sys2Proof.Machine.execTemperature a s
  | .readAddress => Sys2Proof.Machine.execReadAddress s
  | .matchAddress a => Sys2Proof.Machine.execMatchAddress a s
  | .skipAddress => Sys2Proof.Machine.execSkipAddress s
  | .searchAlarm => Sys2Proof.Machine.execSearchAlarm s
  | .search first => Sys2Proof.Machine.execSearch first s
  | .readScratchpad => Sys2Proof.Machine.execReadScratchpad s
  | .writeScratchpad th tl res => Sys2Proof.Machine.execWriteScratchpad th tl res s
  | .convertTemperature => Sys2Proof.Machine.execConvertTemperature s
  | .loadScratchpad => Sys2Proof.Machine.execLoadScratchpad s
  | .saveScratchpad => Sys2Proof.Machine.execSaveScratchpad s
  | .readPowerSupply => Sys2Proof.Machine.execReadPowerSupply s

end Sys2Proof.Machine
end

