-- ==== Sys2Proof/Machine/Fetch.lean ====
section
/-! DEFINITION. How the block comes to an operation and goes on with one: the operation word at the port, the resumption of
an operation that waits for an answer (10_state.md R30, R31; 70_reset_and_hazards.md R179), and what a host does to the
block: presenting a word, reading a register (10_state.md R10, R32, R33). -/

namespace Sys2Proof.Machine

/-! ## The operation port -/

/-- What stands at the operation port of an idle block. -/
inductive Fetched where
  /-- no operation word: the block stays idle (R160) -/
  | idle
  /-- an operation word and the state after the block has taken it from the port -/
  | word (d : Decoded) (s : State)
  deriving DecidableEq, Repr

/-- The block takes the operation word at its port, if there is one. -/
def fetch (s : State) : Fetched :=
  match s.hostOps with
  | [] => .idle
  | w :: rest => .word (decode w) { s with hostOps := rest }

/-- `ILLEGAL_OPERATION`, before step s1 of anything: only `STATUS` and `INFO` change (R148), `CUR_OP` among the rest
being kept (DEDUCED, assumption 14). -/
def takeIllegal (op : Byte) (s : State) : State := raise .illegalOperation op s

/-- Puts an operation word at the port of a block that is idle, in place of the one that stands there. An operation in
progress is dropped, so that the word is the next thing the block takes. -/
def placeWord (w : List Byte) (s : State) : State :=
  { s with hostOps := w :: s.hostOps.tail, busy := false, sstep := 0#4, reqPort := none }

/-! ## Going on with an operation in progress -/

/-- The steps of the operation in progress, for the nine operations that make bus requests. The restart flag of a `SEARCH`
in progress is the one its request carries (R44; assumption 8). -/
def stepsInProgress (s : State) : Option (List MicroStep) :=
  if s.curOp = 0x00#8 then some stepsBusReset
  else if s.curOp = 0x33#8 then some stepsReadAddress
  else if s.curOp = 0x55#8 then some stepsMatchAddress
  else if s.curOp = 0xCC#8 then some stepsSkipAddress
  else if s.curOp = 0xBE#8 then some stepsReadScratchpad
  else if s.curOp = 0x4E#8 then some stepsWriteScratchpad
  else if s.curOp = 0x44#8 then some stepsConvertTemperature
  else if s.curOp = 0x0A#8 then some stepsTemperature
  else if s.curOp = 0xF0#8 then
    match s.reqPort with
    | some (.searchNext first) => some (stepsSearch first)
    | _ => none
  else none

/-- The steps still to run, from the one `SSTEP` names. -/
def stepsLeft (s : State) : List MicroStep :=
  match stepsInProgress s with
  | none => []
  | some fs => if s.sstep = 0#4 then [] else fs.drop (s.sstep.toNat - 1)

/-- The block goes on at the step that waits: with the answer, from there to the end or to the next request that is not
answered; without one, it has no step (R179, U11). -/
def resume (s : State) : Host.Outcome State Fault Refusal :=
  match stepsLeft s with
  | [] => .fault .noSuchStep
  | f :: fs =>
    match f s with
    | .wait _ => .fault .noAnswer
    | .go _ => .next (runSteps (f :: fs) s.sstep.toNat s)
    | .stop _ => .next (runSteps (f :: fs) s.sstep.toNat s)

/-! ## What the outside does to the block -/

/-- The host presents an operation word after those it has presented already (R10, R179). -/
def present (w : List Byte) (s : State) : State := { s with hostOps := s.hostOps ++ [w] }

/-- Answers arrive after those that have arrived already (R10, R46). -/
def arrive (ans : List Answer) (s : State) : State := { s with answers := s.answers ++ ans }

/-- The registers of R32, by name. -/
inductive RegName where
  | rA | rBUF (i : Fin 9) | rR | rTEMP | rTH | rTL | rCFG
  | rSTATUS | rINFO | rPHASE | rFLAGS | rCRC | rTERR
  | rCUROP | rOPA | rOPW (i : Fin 3) | rSSTEP
  deriving DecidableEq, Repr

/-- What a host read finds. -/
inductive HostRead where
  /-- the register's contents, as an unsigned number -/
  | value (v : Nat)
  /-- the payload of a transport error -/
  | payload (e : TErr)
  /-- the register is not readable by the host (RS0 to RS3 of R32) -/
  | noAccess
  /-- the register holds no meaningful value: `AV` or `SPV` is 0 (R21, R22, U4) -/
  | meaningless
  /-- the block is busy: the host reads registers when it is idle (R10) -/
  | blockBusy
  deriving DecidableEq, Repr

/-- `A` is meaningful while `AV` is 1 and after a `FAMILY_CODE` error of `SEARCH` (R11). -/
def addrReadable (s : State) : Bool := s.av || s.status == .familyCode

/-- A register that holds a meaningful value only while its condition holds. -/
def guardedRead (ok : Bool) (v : Nat) : HostRead := if ok then .value v else .meaningless

/-- A host read of an idle block. It has no side effect (R53). -/
def readIdle (n : RegName) (s : State) : HostRead :=
  match n with
  | .rA => guardedRead (addrReadable s) s.a.toNat
  | .rBUF i => .value (((imageBytes s.buf).getD i.val 0#8).toNat)
  | .rR => .value s.r.toNat
  | .rTEMP => guardedRead s.spv s.temp.toNat
  | .rTH => guardedRead s.spv s.th.toNat
  | .rTL => guardedRead s.spv s.tl.toNat
  | .rCFG => guardedRead s.spv s.cfg.toNat
  | .rSTATUS => .value (statusCode s.status).toNat
  | .rINFO => .value s.info.toNat
  | .rPHASE => .value (phaseCode s.phase).toNat
  | .rFLAGS => .value (flagsOf s).toNat
  | .rCRC => .value s.crc.toNat
  | .rTERR => .payload s.terr
  | .rCUROP => .noAccess
  | .rOPA => .noAccess
  | .rOPW _ => .noAccess
  | .rSSTEP => .noAccess

/-- A host read. While the block is busy only `FLAGS` is read, by which the host sees `BUSY` fall (R10, R151; DEDUCED,
assumption 10). -/
def hostRead (n : RegName) (s : State) : HostRead :=
  if s.busy && n != .rFLAGS then .blockBusy else readIdle n s

end Sys2Proof.Machine
end

