-- ==== Sys2Proof/Machine/Step.lean ====
section
/-! DEFINITION. One step of the block (10_state.md R10, R31; 70_reset_and_hazards.md R179). A busy block goes on with its
operation; an idle one takes the operation word at its port; with none there it stays idle (assumption 2). -/

namespace Sys2Proof.Machine

/-- One step. -/
def step (s : State) : Host.Outcome State Fault Refusal :=
  if s.busy then resume s
  else
    match fetch s with
    | .idle => .next s
    | .word (.ok i) t => exec i t
    | .word (.illegal op) t => .next (takeIllegal op t)
    | .word .malformed _ => .refused .malformedWord

/-- The state with the operation of the opcode table's bits `w` at the port, so that the next step runs it. -/
def State.withFetchWord (s : State) (nbits w : Nat) : State := placeWord (tableWord nbits w) s

end Sys2Proof.Machine
end

