-- ==== Sys2Proof/Machine/Programs.lean ====
section
/-! DEFINITION. Host programs: the pseudo-operations of 30_encoding.md R70. Four of them are fixed lists of operations, run by
a host that stops at the first operation that does not end with `OK` (45_facade_sequences.md R132); the whole enumeration
is a loop up to `SEARCH_END`, which goes on after a failed or a foreign item (R130). -/

namespace Sys2Proof.Machine

/-- `select(address)` (R70 (a), D18). -/
def pseudoSelect (a : Addr) : List Instr := [.matchAddress a]

/-- `temperature(address)` as a program (R70 (b)). -/
def pseudoTemperature (a : Addr) : List Instr :=
  [.busReset, .matchAddress a, .convertTemperature, .busReset, .matchAddress a, .readScratchpad]

/-- The operations that `search()` issues for its first `n + 1` items, where a host drops the lazy sequence there (R70 (c)).
The whole sequence is `runSearch`. -/
def pseudoSearch (n : Nat) : List Instr := .search true :: List.replicate n (.search false)

/-- "read full status" as a program (R70 (d)). -/
def pseudoReadStatus (a : Addr) : List Instr := [.busReset, .matchAddress a, .readScratchpad]

/-- "write configuration" as a program (R70 (d)). -/
def pseudoWriteConfig (a : Addr) (th tl : Byte) (res : Resolution) : List Instr :=
  [.busReset, .matchAddress a, .writeScratchpad th tl res]

/-- The operations run one after another, up to the first that does not end with `OK`. -/
def runProgram : List Instr → State → Host.Outcome State Fault Refusal
  | [], s => .next s
  | i :: is, s =>
    match exec i s with
    | .next t => if t.busy = false ∧ t.status = .ok then runProgram is t else .next t
    | .fault f => .fault f
    | .refused q => .refused q

/-! ## `search()`, the whole lazy sequence (R70 (c)) -/

/-- One item of the sequence, of the document's type `Result<Address>` (R130). -/
inductive SearchResult where
  /-- an address of the family -/
  | address (a : Addr)
  /-- a family-code error, with the offending address that `A` holds (R130, R11) -/
  | foreign (a : Addr)
  /-- a transport error -/
  | failed (e : TErr)
  deriving DecidableEq, Repr

/-- An item of the transport's enumeration as its answer (R44). -/
def itemAnswer : Except TErr Addr → Answer
  | .ok a => .item a
  | .error e => .itemErr e

/-- An item of the transport's enumeration as the item the sequence yields for it: filtered by family code, none skipped
(R93, R130). -/
def itemResult : Except TErr Addr → SearchResult
  | .ok a => if familyOk a then .address a else .foreign a
  | .error e => .failed e

/-- The address in `A` after an item: a failed item leaves it. -/
def itemAddr (last : Addr) : Except TErr Addr → Addr
  | .ok a => a
  | .error _ => last

/-- The payload in `TERR` after an item: an item that is an address leaves it. -/
def itemPayload (last : TErr) : Except TErr Addr → TErr
  | .ok _ => last
  | .error e => e

/-- What the host takes from the block after a `SEARCH` that yielded an item; nothing after another status. -/
def searchResult (s : State) : List SearchResult :=
  match s.status with
  | .ok => [.address s.a]
  | .familyCode => [.foreign s.a]
  | .transport => [.failed s.terr]
  | .crcMismatch => []
  | .configRegister => []
  | .deviceNotFound => []
  | .unimplemented => []
  | .protocolViolation => []
  | .illegalOperation => []
  | .searchEnd => []

/-- `SEARCH` with the restart flag, then `SEARCH next`, up to the status `SEARCH_END` or to a request with no answer; at most
`fuel` operations. The items yielded, and the state after the last operation. -/
def searchLoop : Nat → Bool → State → List SearchResult × Host.Outcome State Fault Refusal
  | 0, _, s => ([], .next s)
  | fuel + 1, first, s =>
    match exec (.search first) s with
    | .next t =>
      if t.busy = true ∨ t.status = .searchEnd then ([], .next t)
      else (searchResult t ++ (searchLoop fuel false t).1, (searchLoop fuel false t).2)
    | .fault f => ([], .fault f)
    | .refused q => ([], .refused q)

/-- `search()`: `SEARCH first` followed by `SEARCH next` until the status is `SEARCH_END`. Every operation but the last uses
an answer, so one more operation than there are answers is enough. -/
def runSearch (s : State) : List SearchResult × Host.Outcome State Fault Refusal :=
  searchLoop (s.answers.length + 1) true s

end Sys2Proof.Machine
end

