-- ==== Sys2Proof/Safety.lean ====
section
/-! DEFINITION. What holds of the block in every state a run reaches, in the spec's terms: the invariant of its registers
(10_state.md, 60_exceptions.md) and the command grammar of its bus traffic (60_exceptions.md R147, R150; 30_encoding.md R60,
R61, R67 (g), R68). Both are written from the rules' tables, not from the step lists, so that each checks the other. -/

namespace Sys2Proof.Machine

/-! ## The registers -/

/-- The request that stands at the port while the operation `CUR_OP` waits at step `SSTEP`: read from the numbered steps of
R110 to R113, R120 to R122, R130, R131. -/
def pendingRequest (s : State) : Option BusRequest :=
  let n := s.sstep.toNat
  let w9 := BusRequest.write (0x55#8 :: addrBytes s.opa)
  if s.curOp = 0x00#8 then (if n = 2 then some .reset else none)
  else if s.curOp = 0x33#8 then (if n = 4 then some (.write [0x33#8]) else if n = 5 then some (.read 8) else none)
  else if s.curOp = 0x55#8 then (if n = 3 then some w9 else none)
  else if s.curOp = 0xCC#8 then (if n = 3 then some (.write [0xCC#8]) else none)
  else if s.curOp = 0xBE#8 then (if n = 4 then some (.write [0xBE#8]) else if n = 5 then some (.read 9) else none)
  else if s.curOp = 0x4E#8 then (if n = 3 then some (.write (0x4E#8 :: writeBytes s.opw)) else none)
  else if s.curOp = 0x44#8 then
    (if n = 3 then some (.write [0x44#8]) else if n = 4 then some (.delay 750000) else none)
  else if s.curOp = 0xF0#8 then
    (if n = 3 ∧ s.reqPort = some (.searchNext true) then some (.searchNext true)
     else if n = 3 ∧ s.reqPort = some (.searchNext false) then some (.searchNext false)
     else none)
  else if s.curOp = 0x0A#8 then
    (if n = 2 ∨ n = 6 then some .reset
     else if n = 3 ∨ n = 7 then some w9
     else if n = 4 then some (.write [0x44#8])
     else if n = 5 then some (.delay 750000)
     else if n = 8 then some (.write [0xBE#8])
     else if n = 9 then some (.read 9)
     else none)
  else none

/-- The sequencer and its request port (R31, R40): idle, `SSTEP` = 0 and no request stands; busy, the request of the step
that waits stands. -/
abbrev SequencerOk (s : State) : Prop :=
  (s.busy = false → s.sstep = 0#4 ∧ s.reqPort = none) ∧
  (s.busy = true → s.reqPort.isSome = true ∧ s.reqPort = pendingRequest s)

/-- The phase of an operation that waits: consumed by a command at its entry (R24, D7), inside `TEMPERATURE` as its steps
leave it (R131), untouched by `BUS_RESET` and by the first reset of `TEMPERATURE`. -/
abbrev WaitingPhaseOk (s : State) : Prop :=
  s.busy = true → s.curOp ≠ 0x00#8 →
    (s.curOp ≠ 0x0A#8 → s.phase = .none) ∧
    (s.curOp = 0x0A#8 →
      (s.sstep = 3#4 ∨ s.sstep = 7#4 → s.phase = .selection) ∧
      (s.sstep = 4#4 ∨ s.sstep = 8#4 → s.phase = .memory) ∧
      (s.sstep = 5#4 ∨ s.sstep = 6#4 ∨ s.sstep = 9#4 → s.phase = .none))

/-- `SO` = 1 implies `PHASE` = `NONE` (R23); the operations that can leave `NONE` run with `SO` = 0; `next` is asked for only
while an enumeration is open (R130 s2). -/
abbrev SearchOk (s : State) : Prop :=
  (s.so = true → s.phase = .none) ∧
  (s.busy = true → (s.curOp = 0x00#8 ∨ s.curOp = 0x0A#8 ∨ s.curOp = 0x55#8 ∨ s.curOp = 0xCC#8) → s.so = false) ∧
  (s.busy = true → s.reqPort = some (.searchNext false) → s.so = true)

/-- While `SPV` is 1, `CFG` is one of the four valid bytes (R16); it is 0 while an operation that rewrites the decoded
registers runs (R22). -/
abbrev ScratchpadOk (s : State) : Prop :=
  (s.spv = true → s.cfg = 0x1F#8 ∨ s.cfg = 0x3F#8 ∨ s.cfg = 0x5F#8 ∨ s.cfg = 0x7F#8) ∧
  (s.busy = true → (s.curOp = 0xBE#8 ∨ s.curOp = 0x0A#8) → s.spv = false)

/-- While `AV` is 1, `A` has passed the CRC check of `READ_ADDRESS` or the family check of `SEARCH` (R21, R93, R94); it is 0
while one of the two runs. -/
abbrev AddressOk (s : State) : Prop :=
  (s.av = true → crc8 0x00#8 (addrBytes s.a) = 0x00#8 ∨ familyOf s.a = 0x28#8) ∧
  (s.busy = true → (s.curOp = 0x33#8 ∨ s.curOp = 0xF0#8) → s.av = false)

/-- `INFO` as the status table of R140 has it, for each status. -/
def infoFits (k : Status) (v : Byte) : Bool :=
  match k with
  | .ok => v = 0x00#8
  | .transport => v = 0x00#8
  | .crcMismatch => v ≠ 0x00#8
  | .familyCode => v ≠ 0x28#8
  | .configRegister => v ≠ 0x1F#8 ∧ v ≠ 0x3F#8 ∧ v ≠ 0x5F#8 ∧ v ≠ 0x7F#8
  | .deviceNotFound => v = 0x00#8
  | .unimplemented => v = 0xEC#8 ∨ v = 0xB8#8 ∨ v = 0x48#8 ∨ v = 0xB4#8
  | .protocolViolation =>
    v = 0x33#8 ∨ v = 0x55#8 ∨ v = 0xCC#8 ∨ v = 0xEC#8 ∨ v = 0xBE#8 ∨ v = 0x4E#8 ∨ v = 0x44#8 ∨ v = 0xB8#8 ∨
      v = 0x48#8 ∨ v = 0xB4#8
  | .illegalOperation => true
  | .searchEnd => v = 0x00#8

/-- `STATUS` and `INFO` (R140, R142, R143); `DEVICE_NOT_FOUND` is never raised (R144). -/
abbrev StatusOk (s : State) : Prop :=
  infoFits s.status s.info = true ∧ s.status ≠ .deviceNotFound ∧
  (s.status = .crcMismatch → s.info = s.crc) ∧
  (s.status = .familyCode → s.info = familyOf s.a ∧ s.av = false)

/-- The invariant of the registers. -/
structure RegistersOk (s : State) : Prop where
  sequencer : SequencerOk s
  waitingPhase : WaitingPhaseOk s
  search : SearchOk s
  scratchpad : ScratchpadOk s
  address : AddressOk s
  status : StatusOk s

/-! ## The traffic -/

/-- Where a stretch of bus traffic stands in the command grammar "reset → select → act". -/
inductive Traffic where
  /-- no session: before the first reset, after a consumed phase, or around an enumeration -/
  | idle
  /-- a reset was answered `OK` and nothing has followed it -/
  | afterReset
  /-- a match or skip frame was sent straight after a reset -/
  | afterSelect
  /-- the read-address frame was sent: eight bytes are due -/
  | addressDue
  /-- the read-scratchpad frame was sent: nine bytes are due -/
  | scratchpadDue
  /-- the convert frame was sent: the conversion wait is due -/
  | waitDue
  deriving DecidableEq, Repr

/-- What follows an acknowledged exchange: `p` on `OK`, no session on an error. -/
def onAck (ans : Answer) (p : Traffic) : Traffic := if ans = .ok then p else .idle

/-- One exchange in the grammar: `none` where the block may not make that request there. The frames are those of R60 and
R61, each with its length (R68) and in its place (R62, R150). -/
def trafficNext (p : Traffic) (e : BusEvent) : Option Traffic :=
  match e.req with
  | .reset => some (onAck e.ans .afterReset)
  | .searchNext _ => some .idle
  | .read n =>
    if (p = .addressDue ∧ n = 8) ∨ (p = .scratchpadDue ∧ n = 9) then some .idle else none
  | .delay us => if p = .waitDue ∧ us = 750000 then some .idle else none
  | .write [] => none
  | .write (c :: rest) =>
    if p = .afterReset then
      if c = 0x33#8 ∧ rest.length = 0 then some (onAck e.ans .addressDue)
      else if c = 0x55#8 ∧ rest.length = 8 then some (onAck e.ans .afterSelect)
      else if c = 0xCC#8 ∧ rest.length = 0 then some (onAck e.ans .afterSelect)
      else none
    else if p = .afterSelect then
      if c = 0xBE#8 ∧ rest.length = 0 then some (onAck e.ans .scratchpadDue)
      else if c = 0x44#8 ∧ rest.length = 0 then some (onAck e.ans .waitDue)
      else if c = 0x4E#8 ∧ rest.length = 3 then some .idle
      else none
    else none

/-- Where the traffic stands after a record of exchanges, oldest first; `none` where the record breaks the grammar. -/
def trafficFrom (p : Traffic) : List BusEvent → Option Traffic
  | [] => some p
  | e :: es =>
    match trafficNext p e with
    | none => none
    | some q => trafficFrom q es

/-- The block may make the request where the traffic stands. -/
def requestAllowed (p : Traffic) (q : BusRequest) : Bool := (trafficNext p ⟨q, .ok, []⟩).isSome

/-- `PHASE` tells where an idle block stands in the grammar (R24, R150). -/
def phaseFits (p : Traffic) (s : State) : Bool :=
  match s.phase with
  | .none => true
  | .selection => p == .afterReset
  | .memory => p == .afterSelect

/-- A request that stands at the port may be made. -/
def portFits (p : Traffic) (s : State) : Bool :=
  match s.reqPort with
  | none => true
  | some q => requestAllowed p q

/-- The record of bus traffic keeps the grammar, an idle block's `PHASE` tells where it stands, and a request that stands at
the port may be made. -/
def trafficFits (s : State) : Bool :=
  match trafficFrom .idle s.bus with
  | none => false
  | some p => (s.busy || phaseFits p s) && portFits p s

/-- The invariant of the traffic. -/
abbrev TrafficOk (s : State) : Prop := trafficFits s = true

/-- The ten phase commands and the phase each needs (R147). -/
def phaseNeeded : Instr → Option Phase
  | .readAddress => some .selection
  | .matchAddress _ => some .selection
  | .skipAddress => some .selection
  | .searchAlarm => some .selection
  | .readScratchpad => some .memory
  | .writeScratchpad _ _ _ => some .memory
  | .convertTemperature => some .memory
  | .loadScratchpad => some .memory
  | .saveScratchpad => some .memory
  | .readPowerSupply => some .memory
  | .busReset => none
  | .crcCalc _ => none
  | .crcCalcInit _ _ => none
  | .crcCheck _ => none
  | .familyCode _ => none
  | .cfgDecode _ => none
  | .cfgEncode _ => none
  | .spDecode _ => none
  | .spEncode _ _ _ => none
  | .convTime _ => none
  | .temperature _ => none
  | .search _ => none

/-- The nine pure operations: no bus request, `PHASE` unchanged (R150). -/
def isPure : Instr → Bool
  | .crcCalc _ => true
  | .crcCalcInit _ _ => true
  | .crcCheck _ => true
  | .familyCode _ => true
  | .cfgDecode _ => true
  | .cfgEncode _ => true
  | .spDecode _ => true
  | .spEncode _ _ _ => true
  | .convTime _ => true
  | .busReset => false
  | .temperature _ => false
  | .readAddress => false
  | .matchAddress _ => false
  | .skipAddress => false
  | .searchAlarm => false
  | .search _ => false
  | .readScratchpad => false
  | .writeScratchpad _ _ _ => false
  | .convertTemperature => false
  | .loadScratchpad => false
  | .saveScratchpad => false
  | .readPowerSupply => false

/-- The transition table of R150: the phase after an operation that has ended, from the phase before and whether it ended
without an error. A violation ends with an error, so its cells are the "on error" ones. -/
def phaseAfter (i : Instr) (before : Phase) (success : Bool) : Phase :=
  match i with
  | .busReset => if success then .selection else .none
  | .matchAddress _ => if success then .memory else .none
  | .skipAddress => if success then .memory else .none
  | .crcCalc _ => before
  | .crcCalcInit _ _ => before
  | .crcCheck _ => before
  | .familyCode _ => before
  | .cfgDecode _ => before
  | .cfgEncode _ => before
  | .spDecode _ => before
  | .spEncode _ _ _ => before
  | .convTime _ => before
  | .temperature _ => .none
  | .readAddress => .none
  | .searchAlarm => .none
  | .search _ => .none
  | .readScratchpad => .none
  | .writeScratchpad _ _ _ => .none
  | .convertTemperature => .none
  | .loadScratchpad => .none
  | .saveScratchpad => .none
  | .readPowerSupply => .none

/-! ## Which operation writes which register: the "written by" column of R32, and R11 to R28, R30 -/

/-- Registers that are written by the same operations. -/
inductive RegGroup where
  /-- `A` and `AV` (R11, R21) -/
  | address
  /-- `BUF` (R12) -/
  | buffer
  /-- `R` (R13) -/
  | result
  /-- `TEMP`, `TH`, `TL`, `CFG` and `SPV` (R14 to R16, R22) -/
  | decoded
  /-- `CRC` (R27) -/
  | crcUnit
  /-- `SO` (R23) -/
  | searchOpen
  /-- `PHASE` (R24) -/
  | phase
  /-- `OPA` (R30, R65 `HA`) -/
  | addressLatch
  /-- `OPW` (R30, R65 `HW`) -/
  | writeLatch
  deriving DecidableEq, Repr

/-- The groups an operation may write. `STATUS`, `INFO`, `CUR_OP`, `SSTEP` and `BUSY` are written by every operation, `TERR`
by those that end with `TRANSPORT` (R25, R26, R28, R30, R31). -/
def groupsWritten : Instr → List RegGroup
  | .busReset => [.searchOpen, .phase]
  | .crcCalc _ => [.crcUnit, .result]
  | .crcCalcInit _ _ => [.crcUnit, .result]
  | .crcCheck _ => [.crcUnit, .result]
  | .familyCode _ => [.result, .addressLatch]
  | .cfgDecode _ => [.result]
  | .cfgEncode _ => [.result]
  | .spDecode _ => [.buffer, .decoded]
  | .spEncode _ _ _ => [.result, .writeLatch]
  | .convTime _ => [.result]
  | .temperature _ => [.buffer, .decoded, .crcUnit, .searchOpen, .phase, .addressLatch]
  | .readAddress => [.address, .buffer, .crcUnit, .phase]
  | .matchAddress _ => [.phase, .addressLatch]
  | .skipAddress => [.phase]
  | .searchAlarm => [.phase]
  | .search _ => [.address, .searchOpen, .phase]
  | .readScratchpad => [.buffer, .decoded, .crcUnit, .phase]
  | .writeScratchpad _ _ _ => [.phase, .writeLatch]
  | .convertTemperature => [.phase]
  | .loadScratchpad => [.phase]
  | .saveScratchpad => [.phase]
  | .readPowerSupply => [.phase]

/-! ## The open type `TERR`: every payload replaced by another (R7, R28, R141) -/

/-- An answer with its payload replaced. -/
def Answer.mapPayload (f : TErr → TErr) : Answer → Answer
  | .ok => .ok
  | .err e => .err (f e)
  | .bytes bs => .bytes bs
  | .item a => .item a
  | .itemErr e => .itemErr (f e)
  | .noMore => .noMore

/-- An exchange with the payload of its answer replaced. -/
def BusEvent.mapPayload (f : TErr → TErr) (e : BusEvent) : BusEvent := { e with ans := e.ans.mapPayload f }

/-- A state with every payload in it replaced: the register `TERR`, the answers to come and the recorded answers. -/
def State.mapPayload (f : TErr → TErr) (s : State) : State :=
  { s with
    terr := f s.terr
    answers := s.answers.map (Answer.mapPayload f)
    bus := s.bus.map (BusEvent.mapPayload f) }

/-- An outcome with every payload in it replaced. -/
def mapPayloadOutcome (f : TErr → TErr) : Host.Outcome State Fault Refusal → Host.Outcome State Fault Refusal
  | .next s => .next (s.mapPayload f)
  | .fault k => .fault k
  | .refused q => .refused q

end Sys2Proof.Machine
end

