-- ==== Sys2Proof/Certificates/Slice0/Obligations.lean ====
section
/-! DEFINITION. The statements for the provers. A statement of an operation's result gives the whole next state, so it says
what the operation writes, that every other field of State is unchanged, and what its bus traffic is: the field `bus` is the
model's own record of the answered requests (assumption 13). -/

open Sys2Proof Sys2Proof.Machine

/-! ## Encoding -/

/-- R65, R66: the decoder gives back every well-formed operation from its operation word, with every operand. -/
def Obligations.DecodeOfEncodeGivesOperation : Prop :=
  ∀ i : Instr, i.wf = true → decode (encode i) = .ok i

/-- R65, R66, R68: each operation word has one meaning, and the decoder accepts no other byte string. -/
def Obligations.DecodedWordIsItsEncoding : Prop :=
  ∀ (w : List Byte) (i : Instr), decode w = .ok i → i.wf = true ∧ encode i = w

/-- R65, R66: words written out byte by byte from the formats, one for each format. -/
def Obligations.WordsOfTheFormatsDecode : Prop :=
  decode [0x33#8] = .ok .readAddress ∧
  decode [0x0A#8, 0x28#8, 0x01#8, 0x02#8, 0x03#8, 0x04#8, 0x05#8, 0x06#8, 0x9E#8] =
    .ok (.temperature 0x9E06050403020128#64) ∧
  decode [0x4E#8, 0xF6#8, 0xC9#8, 0x02#8] = .ok (.writeScratchpad 0xF6#8 0xC9#8 .bits11) ∧
  decode [0x09#8, 0x03#8] = .ok (.convTime .bits12) ∧
  decode [0x05#8, 0x9F#8] = .ok (.cfgDecode 0x9F#8) ∧
  decode [0x01#8, 0x02#8, 0x63#8, 0x01#8] = .ok (.crcCalc [0x63#8, 0x01#8]) ∧
  decode [0x02#8, 0x15#8, 0x01#8, 0x15#8] = .ok (.crcCalcInit 0x15#8 [0x15#8]) ∧
  decode [0x07#8, 0x01#8, 0x91#8, 0x4B#8, 0x46#8, 0x7F#8, 0xFF#8, 0x0C#8, 0x10#8, 0xDA#8] =
    .ok (.spDecode ⟨0x01#8, 0x91#8, 0x4B#8, 0x46#8, 0x7F#8, 0xFF#8, 0x0C#8, 0x10#8, 0xDA#8⟩) ∧
  decode [0xF0#8, 0x01#8] = .ok (.search true) ∧
  decode [0xF0#8, 0x02#8] = .illegal 0xF0#8 ∧
  decode [0x0B#8] = .illegal 0x0B#8

/-- R148, R67 (a), (b): a word whose byte 0 is no operation code of R66, or whose reserved operand bits are not zero, raises
`ILLEGAL_OPERATION` with `INFO` = byte 0, and no other register of the block changes. Stated of an idle block as the spec
has it, with `SSTEP` = 0 (R31). -/
def Obligations.IllegalWordChangesOnlyStatusAndInfo : Prop :=
  ∀ (s : State) (op : Byte) (operands : List Byte) (rest : List (List Byte)),
    s.busy = false → s.sstep = 0#4 → s.hostOps = (op :: operands) :: rest →
    (op ∉ [0x00#8, 0x01#8, 0x02#8, 0x03#8, 0x04#8, 0x05#8, 0x06#8, 0x07#8, 0x08#8, 0x09#8, 0x0A#8, 0x33#8, 0x55#8, 0xCC#8,
        0xEC#8, 0xF0#8, 0xBE#8, 0x4E#8, 0x44#8, 0xB8#8, 0x48#8, 0xB4#8] ∨
      (op ∈ [0x06#8, 0x09#8] ∧ ∃ r : Byte, operands = [r] ∧ r.extractLsb' 2 6 ≠ 0#6) ∨
      (op ∈ [0x08#8, 0x4E#8] ∧ ∃ th tl r : Byte, operands = [th, tl, r] ∧ r.extractLsb' 2 6 ≠ 0#6) ∨
      (op = 0xF0#8 ∧ ∃ f : Byte, operands = [f] ∧ f.extractLsb' 1 7 ≠ 0#7)) →
    step s = .next { s with hostOps := rest, status := .illegalOperation, info := op }

/-! ## The step -/

/-- R10, R30, R65: an idle block with an operation word at its port runs the operation that the word encodes, after taking
the word from the port. -/
def Obligations.StepRunsTheDecodedOperation : Prop :=
  ∀ (s : State) (w : List Byte) (rest : List (List Byte)) (i : Instr),
    s.busy = false → s.hostOps = w :: rest → decode w = .ok i →
    step s = exec i { s with hostOps := rest }

/-- The model's choice: an idle block with nothing at its port goes on as it is (assumption 2, from "the block is idle and
waits for the first operation"), and a byte string that is no operation word is refused (assumption 9). -/
def Obligations.IdleBlockAndMalformedWord : Prop :=
  (∀ s : State, s.busy = false → s.hostOps = [] → step s = .next s) ∧
  (∀ (s : State) (w : List Byte) (rest : List (List Byte)),
    s.busy = false → s.hostOps = w :: rest → decode w = .malformed → step s = .refused .malformedWord)

/-- R179, R20: while the block is busy it accepts no operation; the words at the port are kept for later. And U11: with
no answer at hand a waiting block has no step (a fault in the model, assumption 5). -/
def Obligations.BusyBlockAcceptsNoOperation : Prop :=
  (∀ s t : State, s.busy = true → step s = .next t → t.hostOps = s.hostOps ∧ t.curOp = s.curOp) ∧
  (∀ s : State, RegistersOk s → s.busy = true → s.answers = [] → step s = .fault .noAnswer)

/-- R31, R179, R46: an operation that waits and then gets answers goes on as if they had been there from the start.
What a waiting state holds is the model's reading of R8 and R31 (assumptions 3, 5, 12). -/
def Obligations.LateAnswersMakeNoDifference : Prop :=
  ∀ (i : Instr) (s t u : State) (late : List Answer),
    exec i s = .next t → t.busy = true → step (arrive late t) = .next u → exec i (arrive late s) = .next u

/-- R31, R20: the nine bus operations, with no answer at hand, in the phase they need and, for `SEARCH next`, with an
enumeration open, wait with `BUSY` = 1 at the step of their first request. Where the request is one that the phase check guards, the phase is consumed by then. That a wait is
a state of its own, with the writes of the earlier steps made, is the model's reading of R8 and R31 (assumptions 5, 8, 12). -/
def Obligations.FirstRequestWaitsAtItsStep : Prop :=
  ∀ s : State, s.answers = [] →
    exec .busReset s =
      .next { s with so := false, busy := true, curOp := 0x00#8, sstep := 2#4, reqPort := some .reset } ∧
    (∀ a, exec (.temperature a) s =
      .next { s with spv := false, so := false, busy := true, curOp := 0x0A#8, opa := a, sstep := 2#4,
                     reqPort := some .reset }) ∧
    exec (.search true) s =
      .next { s with av := false, phase := .none, busy := true, curOp := 0xF0#8, sstep := 3#4,
                     reqPort := some (.searchNext true) } ∧
    (s.so = true →
      exec (.search false) s =
        .next { s with av := false, phase := .none, busy := true, curOp := 0xF0#8, sstep := 3#4,
                       reqPort := some (.searchNext false) }) ∧
    (s.phase = .selection →
      exec .readAddress s =
        .next { s with av := false, phase := .none, busy := true, curOp := 0x33#8, sstep := 4#4,
                       reqPort := some (.write [0x33#8]) } ∧
      (∀ a, exec (.matchAddress a) s =
        .next { s with phase := .none, busy := true, curOp := 0x55#8, opa := a, sstep := 3#4,
                       reqPort := some (.write (0x55#8 :: addrBytes a)) }) ∧
      exec .skipAddress s =
        .next { s with phase := .none, busy := true, curOp := 0xCC#8, sstep := 3#4,
                       reqPort := some (.write [0xCC#8]) }) ∧
    (s.phase = .memory →
      exec .readScratchpad s =
        .next { s with spv := false, phase := .none, busy := true, curOp := 0xBE#8, sstep := 4#4,
                       reqPort := some (.write [0xBE#8]) } ∧
      (∀ th tl r, exec (.writeScratchpad th tl r) s =
        .next { s with phase := .none, busy := true, curOp := 0x4E#8, opw := ⟨th, tl, cfgOf r⟩, sstep := 3#4,
                       reqPort := some (.write [0x4E#8, th, tl, cfgOf r]) }) ∧
      exec .convertTemperature s =
        .next { s with phase := .none, busy := true, curOp := 0x44#8, sstep := 3#4,
                       reqPort := some (.write [0x44#8]) })

/-! ## Reset and invariants -/

/-- R160: the values the spec gives for the block's reset. -/
def Obligations.ResetLeavesControlRegistersCleared : Prop :=
  State.reset.phase = .none ∧ flagsOf State.reset = 0b0000#4 ∧ State.reset.status = .ok ∧ State.reset.info = 0x00#8 ∧
  State.reset.crc = 0x00#8 ∧ State.reset.sstep = 0#4

/-- The two invariants hold after reset. -/
def Obligations.ResetMeetsTheInvariants : Prop :=
  RegistersOk State.reset ∧ TrafficOk State.reset

/-- R16, R20 to R26, R31, R140, R144: every step keeps the invariant of the registers, from every state that meets it. Its
part about a waiting operation rests on the model's reading of R8 and R31 (assumptions 5 and 12): that `TEMPERATURE` waiting
at s3 or s7 of R131 shows `SELECTION`, and at s4 or s8 `MEMORY`. -/
def Obligations.StepKeepsTheRegisterInvariant : Prop :=
  ∀ s t : State, RegistersOk s → step s = .next t → RegistersOk t

/-- R147, R150, R60, R61, R67 (g), R68: every step keeps the command grammar of the bus traffic: reset, then one selection
frame, then one memory frame, each frame with its length, each read and the conversion wait after its own command. The record is the model's own
(assumption 13); the premise about the registers has the model's reading of a waiting operation in it (assumptions 5 and
12). -/
def Obligations.StepKeepsTheCommandGrammar : Prop :=
  ∀ s t : State, RegistersOk s → TrafficOk s → step s = .next t → TrafficOk t

/-- Every operation, issued in any state, ends or waits for an answer: it never stops the machine. A wait is a state of its
own (assumption 5). -/
def Obligations.EveryOperationEndsOrWaits : Prop :=
  ∀ (i : Instr) (s : State), ∃ t, exec i s = .next t ∧
    ((t.busy = false ∧ t.sstep = 0#4) ∨ (t.busy = true ∧ isPure i = false ∧ t.reqPort.isSome = true))

/-! ## Whole-machine rules -/

/-- R145: raising an error writes `STATUS`, `INFO`, `SSTEP` and `BUSY`, and nothing else. -/
def Obligations.RaiseWritesStatusInfoAndEnds : Prop :=
  ∀ (k : Status) (v : Byte) (s : State),
    raise k v s = { s with status := k, info := v, sstep := 0#4, busy := false }

/-- R147: a phase command in another phase than the one it needs makes no bus request, sets `PHASE` to `NONE` and ends with
`PROTOCOL_VIOLATION` carrying its operation code. Of the other registers it has changed only `AV` (`READ_ADDRESS`, R111
s1), `SPV` (`READ_SCRATCHPAD`, R120 s1) and the operand latches. -/
def Obligations.WrongPhaseIsAProtocolViolation : Prop :=
  ∀ (i : Instr) (need : Phase) (s : State), phaseNeeded i = some need → s.phase ≠ need →
    ∃ av spv opa opw, exec i s = .next { s with
      phase := .none, status := .protocolViolation, info := opcode i, curOp := opcode i, sstep := 0#4, busy := false,
      reqPort := none, av := av, spv := spv, opa := opa, opw := opw } ∧
    (i = .readAddress → av = false) ∧ (i ≠ .readAddress → av = s.av) ∧
    (i = .readScratchpad → spv = false) ∧ (i ≠ .readScratchpad → spv = s.spv) ∧
    (∀ a, i = .matchAddress a → opa = a) ∧ ((∀ a, i ≠ .matchAddress a) → opa = s.opa) ∧
    (∀ th tl r, i = .writeScratchpad th tl r → opw = ⟨th, tl, cfgOf r⟩) ∧
    ((∀ th tl r, i ≠ .writeScratchpad th tl r) → opw = s.opw)

/-- R150: the transition table, for every operation that has ended. The spec marks the table as its own inference ("derived:
from 43_selection_commands.md rule R115, 44_memory_commands.md rule R126 and rules R147, R148"). -/
def Obligations.PhaseFollowsTheTransitionTable : Prop :=
  ∀ (i : Instr) (s t : State), exec i s = .next t → t.busy = false →
    t.phase = phaseAfter i s.phase (!statusIsError t.status)

/-- R147, R153: no memory phase without a selection command in a selection phase, and no selection phase without a bus
reset: the only ways to leave `NONE` or to come to `MEMORY`. -/
def Obligations.OnlySelectionReachesTheMemoryPhase : Prop :=
  ∀ (i : Instr) (s t : State), exec i s = .next t → t.busy = false →
    (t.phase = .memory → s.phase = .memory ∧ isPure i = true ∨
      s.phase = .selection ∧ t.status = .ok ∧ (i = .skipAddress ∨ ∃ a, i = .matchAddress a)) ∧
    (t.phase = .selection → s.phase = .selection ∧ isPure i = true ∨ i = .busReset ∧ t.status = .ok)

/-- R150, R85, R92, R104: a pure operation ends at once, makes no bus request, needs no answer, and leaves `PHASE`, `SO`,
`AV`, `A` and `TERR` as they were. -/
def Obligations.PureOperationsLeaveBusAndPhase : Prop :=
  ∀ (i : Instr) (s t : State), isPure i = true → exec i s = .next t →
    t.busy = false ∧ t.phase = s.phase ∧ t.bus = s.bus ∧ t.answers = s.answers ∧ t.hostOps = s.hostOps ∧ t.draws = s.draws ∧
    t.so = s.so ∧ t.av = s.av ∧ t.a = s.a ∧ t.terr = s.terr

/-- R32 (column "written by"), R11 to R16, R21 to R24, R27, R28, R30: an operation leaves every register alone that it is not
named as writing; it takes no word from the port, and it only adds to the record of traffic (assumption 13). What it says of an operation that
waits is the model's reading of R8 and R31 (assumptions 5 and 12). -/
def Obligations.RegistersAreWrittenOnlyByTheirOperations : Prop :=
  ∀ (i : Instr) (s t : State), exec i s = .next t →
    (.address ∉ groupsWritten i → t.a = s.a ∧ t.av = s.av) ∧
    (.buffer ∉ groupsWritten i → t.buf = s.buf) ∧
    (.result ∉ groupsWritten i → t.r = s.r) ∧
    (.decoded ∉ groupsWritten i → t.temp = s.temp ∧ t.th = s.th ∧ t.tl = s.tl ∧ t.cfg = s.cfg ∧ t.spv = s.spv) ∧
    (.crcUnit ∉ groupsWritten i → t.crc = s.crc) ∧
    (.searchOpen ∉ groupsWritten i → t.so = s.so) ∧
    (.phase ∉ groupsWritten i → t.phase = s.phase) ∧
    (.addressLatch ∉ groupsWritten i → t.opa = s.opa) ∧
    (.writeLatch ∉ groupsWritten i → t.opw = s.opw) ∧
    (t.busy = true ∨ t.status ≠ .transport → t.terr = s.terr) ∧
    (t.busy = true → t.status = s.status ∧ t.info = s.info) ∧
    t.curOp = opcode i ∧ t.hostOps = s.hostOps ∧ ∃ events, t.bus = s.bus ++ events

/-- R22, R14 to R16: a decoded register changes only where `SPV` is 1 afterwards, with `STATUS` = `OK`; R21, R11: `A` changes
only where `AV` is 1 afterwards with `OK`, or with `FAMILY_CODE`, which leaves the offending address in it. -/
def Obligations.ResultRegistersChangeOnlyOnSuccess : Prop :=
  ∀ (i : Instr) (s t : State), exec i s = .next t →
    ((t.temp ≠ s.temp ∨ t.th ≠ s.th ∨ t.tl ≠ s.tl ∨ t.cfg ≠ s.cfg) →
      t.spv = true ∧ t.status = .ok ∧ t.busy = false ∧
      t.temp = t.buf.b0 ++ t.buf.b1 ∧ t.th = t.buf.b2 ∧ t.tl = t.buf.b3 ∧ t.cfg = t.buf.b4) ∧
    (t.a ≠ s.a → t.busy = false ∧
      ((t.av = true ∧ t.status = .ok) ∨ (t.av = false ∧ t.status = .familyCode ∧ t.info = familyOf t.a)))

/-! ## CRC8 unit -/

/-- R80: the byte step is the bit-serial form, fed with bit 0 of the byte first. The spec marks the equivalence as its own
inference ("derived: from rule R80, by linearity of the shift and of `^`"). -/
def Obligations.ByteStepIsTheBitSerialForm : Prop :=
  ∀ c b : Byte, byteStep c b =
    (List.range 8).foldl (fun (x : Byte) (i : Nat) =>
      if (x.getLsbD 0 ^^ b.getLsbD i) then (x >>> 1) ^^^ 0x8C#8 else x >>> 1) c

/-- R84: the laws of `crc8`: (a) an appended correct CRC byte gives 0, for any seed; (b) chaining; (c) zeros stay zero; (d)
a frame passes exactly when its last byte is the CRC of the others, and any corruption of one byte is detected; (e)
linearity. The first half of (a) is the document's; the spec marks the rest as its own inferences ("the others follow from
rules R80 and R81 and are marked so"). -/
def Obligations.CrcLaws : Prop :=
  (∀ (seed : Byte) (d : List Byte), crc8 seed (d ++ [crc8 seed d]) = 0x00#8) ∧
  (∀ (seed : Byte) (d e : List Byte), crc8 seed (d ++ e) = crc8 (crc8 seed d) e) ∧
  (∀ n : Nat, crc8 0x00#8 (List.replicate n 0x00#8) = 0x00#8) ∧
  (∀ (d : List Byte) (r : Byte), crc8 0x00#8 (d ++ [r]) = byteStep 0x00#8 (crc8 0x00#8 d ^^^ r) ∧
    (crc8 0x00#8 (d ++ [r]) = 0x00#8 ↔ r = crc8 0x00#8 d)) ∧
  (∀ (d e : List Byte) (x y : Byte), crc8 0x00#8 (d ++ x :: e) = 0x00#8 → x ≠ y → crc8 0x00#8 (d ++ y :: e) ≠ 0x00#8) ∧
  (∀ d e : List Byte, d.length = e.length →
    crc8 0x00#8 (List.zipWith (· ^^^ ·) d e) = crc8 0x00#8 d ^^^ crc8 0x00#8 e)

/-- R88, R6: the feedback mask is the polynomial's low eight coefficients in reversed bit order, and its x^8 coefficient is 1.
The spec marks the correspondence as its own inference ("derived: from rule R80"). -/
def Obligations.MaskIsTheReflectedPolynomial : Prop :=
  (∀ i : Fin 8, Config.crcMask.getLsbD i.val = Config.crcPoly.getLsbD (7 - i.val)) ∧ Config.crcPoly.getLsbD 8 = true

/-- R85: `CRC_CALC data`. -/
def Obligations.CrcCalcGivesTheChecksum : Prop :=
  ∀ (data : List Byte) (s : State),
    encode (.crcCalc data) = 0x01#8 :: BitVec.ofNat 8 data.length :: data ∧
    exec (.crcCalc data) s = .next { s with
      crc := crc8 0x00#8 data, r := (crc8 0x00#8 data).setWidth 32, status := .ok, info := 0x00#8,
      curOp := 0x01#8, sstep := 0#4, busy := false, reqPort := none }

/-- R86: `CRC_CALC_INIT seed, data`. -/
def Obligations.CrcCalcInitGivesTheSeededChecksum : Prop :=
  ∀ (seed : Byte) (data : List Byte) (s : State),
    encode (.crcCalcInit seed data) = 0x02#8 :: seed :: BitVec.ofNat 8 data.length :: data ∧
    exec (.crcCalcInit seed data) s = .next { s with
      crc := crc8 seed data, r := (crc8 seed data).setWidth 32, status := .ok, info := 0x00#8,
      curOp := 0x02#8, sstep := 0#4, busy := false, reqPort := none }

/-- R87: `CRC_CHECK data`: `OK` where the checksum is 0, else `CRC_MISMATCH` with the checksum in `INFO`; `R` has it either
way. -/
def Obligations.CrcCheckJudgesTheChecksum : Prop :=
  ∀ (data : List Byte) (s : State),
    encode (.crcCheck data) = 0x03#8 :: BitVec.ofNat 8 data.length :: data ∧
    exec (.crcCheck data) s = .next { s with
      crc := crc8 0x00#8 data, r := (crc8 0x00#8 data).setWidth 32,
      status := if crc8 0x00#8 data = 0x00#8 then .ok else .crcMismatch, info := crc8 0x00#8 data,
      curOp := 0x03#8, sstep := 0#4, busy := false, reqPort := none }

/-! ## Address unit -/

/-- R90: the fields of an address, its bytes in wire order, and that they make up all 64 bits; and R94's two forms of the
check of its CRC byte, which rest on an inference of the spec (R84 (d)). -/
def Obligations.AddressFieldsAndBytes : Prop :=
  ∀ a : Addr,
    familyOf a = a.extractLsb' 0 8 ∧ serialOf a = a.extractLsb' 8 48 ∧ crcByteOf a = a.extractLsb' 56 8 ∧
    addrBytes a = [a.extractLsb' 0 8, a.extractLsb' 8 8, a.extractLsb' 16 8, a.extractLsb' 24 8, a.extractLsb' 32 8,
      a.extractLsb' 40 8, a.extractLsb' 48 8, a.extractLsb' 56 8] ∧
    crcByteOf a ++ serialOf a ++ familyOf a = a ∧
    (crcByteOf a = crc8 0x00#8 ((addrBytes a).take 7) ↔ crc8 0x00#8 (addrBytes a) = 0x00#8)

/-- R92: `FAMILY_CODE a`. -/
def Obligations.FamilyCodeGivesByteZero : Prop :=
  ∀ (a : Addr) (s : State),
    encode (.familyCode a) = 0x04#8 :: addrBytes a ∧
    exec (.familyCode a) s = .next { s with
      r := (a.extractLsb' 0 8).setWidth 32, status := .ok, info := 0x00#8,
      opa := a, curOp := 0x04#8, sstep := 0#4, busy := false, reqPort := none }

/-! ## Scratchpad decoder -/

/-- R96, R63: resolutions and valid configuration bytes correspond one to one, and the check accepts exactly four bytes. The
spec marks the mask test and the round trip as its own inferences ("derived: from the four patterns"; "derived: from the
table"). -/
def Obligations.ConfigurationBytesMatchResolutions : Prop :=
  (∀ b : Byte, cfgValid b = true ↔ b = 0x1F#8 ∨ b = 0x3F#8 ∨ b = 0x5F#8 ∨ b = 0x7F#8) ∧
  (∀ r : Resolution, cfgValid (cfgOf r) = true ∧ resBits (cfgOf r) = resCode r) ∧
  (∀ b : Byte, cfgValid b = true → ∃ r : Resolution, cfgOf r = b ∧ resCode r = resBits b) ∧
  (cfgOf .bits9 = 0x1F#8 ∧ cfgOf .bits10 = 0x3F#8 ∧ cfgOf .bits11 = 0x5F#8 ∧ cfgOf .bits12 = 0x7F#8)

/-- R97: `CFG_DECODE b` accepts exactly the four patterns, and returns the offending byte for every other. -/
def Obligations.CfgDecodeAcceptsFourBytes : Prop :=
  ∀ (b : Byte) (s : State),
    encode (.cfgDecode b) = [0x05#8, b] ∧
    ((b &&& 0x9F#8) = 0x1F#8 → exec (.cfgDecode b) s = .next { s with
      r := (b.extractLsb' 5 2).setWidth 32, status := .ok, info := 0x00#8,
      curOp := 0x05#8, sstep := 0#4, busy := false, reqPort := none }) ∧
    ((b &&& 0x9F#8) ≠ 0x1F#8 → exec (.cfgDecode b) s = .next { s with
      status := .configRegister, info := b, curOp := 0x05#8, sstep := 0#4, busy := false, reqPort := none })

/-- R98: `CFG_ENCODE r`, and its word with a nonzero reserved operand bit. -/
def Obligations.CfgEncodeGivesTheByte : Prop :=
  (∀ r : Byte, r.extractLsb' 2 6 ≠ 0#6 → decode [0x06#8, r] = .illegal 0x06#8) ∧
  ∀ (res : Resolution) (s : State),
    encode (.cfgEncode res) = [0x06#8, (resCode res).setWidth 8] ∧
    exec (.cfgEncode res) s = .next { s with
      r := (0b0#1 ++ resCode res ++ 0b11111#5).setWidth 32, status := .ok, info := 0x00#8,
      curOp := 0x06#8, sstep := 0#4, busy := false, reqPort := none }

/-- R104: `SP_DECODE`: no CRC check; on a malformed byte 4 the decoded registers keep their contents and `SPV` is 0. -/
def Obligations.SpDecodeLoadsTheDecodedRegisters : Prop :=
  ∀ (m : Image9) (s : State),
    encode (.spDecode m) = [0x07#8, m.b0, m.b1, m.b2, m.b3, m.b4, m.b5, m.b6, m.b7, m.b8] ∧
    ((m.b4 &&& 0x9F#8) = 0x1F#8 → exec (.spDecode m) s = .next { s with
      buf := m, temp := m.b0 ++ m.b1, th := m.b2, tl := m.b3, cfg := m.b4, spv := true, status := .ok, info := 0x00#8,
      curOp := 0x07#8, sstep := 0#4, busy := false, reqPort := none }) ∧
    ((m.b4 &&& 0x9F#8) ≠ 0x1F#8 → exec (.spDecode m) s = .next { s with
      buf := m, spv := false, status := .configRegister, info := m.b4,
      curOp := 0x07#8, sstep := 0#4, busy := false, reqPort := none })

/-- R105: `SP_ENCODE th, tl, r`, and its word with a nonzero reserved operand bit. -/
def Obligations.SpEncodePacksTheWriteImage : Prop :=
  (∀ th tl r : Byte, r.extractLsb' 2 6 ≠ 0#6 → decode [0x08#8, th, tl, r] = .illegal 0x08#8) ∧
  ∀ (th tl : Byte) (res : Resolution) (s : State),
    encode (.spEncode th tl res) = [0x08#8, th, tl, (resCode res).setWidth 8] ∧
    exec (.spEncode th tl res) s = .next { s with
      r := 0x00#8 ++ (0b0#1 ++ resCode res ++ 0b11111#5 : BitVec 8) ++ tl ++ th,
      opw := ⟨th, tl, 0b0#1 ++ resCode res ++ 0b11111#5⟩, status := .ok, info := 0x00#8,
      curOp := 0x08#8, sstep := 0#4, busy := false, reqPort := none }

/-- R107: `CONV_TIME r`: 93750, 187500, 375000 or 750000 microseconds; and its word with a nonzero reserved operand bit. -/
def Obligations.ConvTimeHalvesPerStep : Prop :=
  (∀ r : Byte, r.extractLsb' 2 6 ≠ 0#6 → decode [0x09#8, r] = .illegal 0x09#8) ∧
  ∀ (res : Resolution) (s : State),
    encode (.convTime res) = [0x09#8, (resCode res).setWidth 8] ∧
    exec (.convTime res) s = .next { s with
      r := (match res with
        | .bits9 => 93750#32
        | .bits10 => 187500#32
        | .bits11 => 375000#32
        | .bits12 => 750000#32),
      status := .ok, info := 0x00#8, curOp := 0x09#8, sstep := 0#4, busy := false, reqPort := none }

/-- R106: what was encoded is decoded to the same fields, whatever the other six bytes of the image are. The spec marks this
form as its own inference ("derived: from rules R96, R104 and R105"). -/
def Obligations.EncodeThenDecodeIsAFixedPoint : Prop :=
  ∀ (th tl : Byte) (res : Resolution) (m : Image9) (s t u : State),
    exec (.spEncode th tl res) s = .next t →
    m.b2 = t.r.extractLsb' 0 8 → m.b3 = t.r.extractLsb' 8 8 → m.b4 = t.r.extractLsb' 16 8 →
    exec (.spDecode m) t = .next u →
    u.status = .ok ∧ u.spv = true ∧ u.th = th ∧ u.tl = tl ∧ resBits u.cfg = resCode res

/-- R101, R14: the temperature is the two bytes read as a big-endian two's-complement number, over 16; its range; and the
other setting of `TEMP_BYTE0_IS_MSB` swaps the bytes and nothing else. The setting itself is assumed (assumption 7). -/
def Obligations.TemperatureIsBigEndianSixteenths : Prop :=
  Config.tempByte0IsMsb = true ∧
  ∀ b0 b1 : Byte,
    (tempOf true b0 b1).toInt = b0.toInt * 256 + (b1.toNat : ℤ) ∧
    tempOf false b0 b1 = tempOf true b1 b0 ∧
    degreesOf (tempOf true b0 b1) * 16 = ((tempOf true b0 b1).toInt : ℚ) ∧
    -2048 ≤ degreesOf (tempOf true b0 b1) ∧ degreesOf (tempOf true b0 b1) ≤ 32767 / 16

/-- R103: the binary32 image is exact and normal: with sign bit, exponent e and fraction m, the magnitude
`(2^23 + m) * 2^(e - 150)` is `|signed(TEMP)| / 16`. The binary32 encoding is general knowledge (assumption 11). -/
def Obligations.FloatImageIsExact : Prop :=
  f32Of 0#16 = 0#32 ∧
  ∀ t : BitVec 16, t ≠ 0#16 →
    let f := f32Of t
    let e := (f.extractLsb' 23 8).toNat
    let m := (f.extractLsb' 0 23).toNat
    f.getLsbD 31 = decide (t.toInt < 0) ∧ 1 ≤ e ∧ e ≤ 254 ∧
    (2 ^ 23 + m) * 2 ^ e = t.toInt.natAbs * 2 ^ 146

/-! ## Bus reset and selection commands -/

/-- R110: `BUS_RESET`, valid in every phase. -/
def Obligations.BusResetOpensTheSelectionPhase : Prop :=
  encode .busReset = [0x00#8] ∧
  ∀ (s : State) (rest : List Answer),
    (s.answers = .ok :: rest → exec .busReset s = .next { s with
      so := false, phase := .selection, status := .ok, info := 0x00#8,
      answers := rest, bus := s.bus ++ [⟨.reset, .ok, []⟩],
      curOp := 0x00#8, sstep := 0#4, busy := false, reqPort := none }) ∧
    (∀ e, s.answers = .err e :: rest → exec .busReset s = .next { s with
      so := false, phase := .none, terr := e, status := .transport, info := 0x00#8,
      answers := rest, bus := s.bus ++ [⟨.reset, .err e, []⟩],
      curOp := 0x00#8, sstep := 0#4, busy := false, reqPort := none })

/-- R111: `READ_ADDRESS` in the selection phase: success, a failed write, a failed read, a failed check. In the wrong phase it
ends with `PROTOCOL_VIOLATION` and `AV` = 0. -/
def Obligations.ReadAddressReadsAndChecksEightBytes : Prop :=
  encode .readAddress = [0x33#8] ∧
  ∀ (s : State) (rest : List Answer) (b0 b1 b2 b3 b4 b5 b6 b7 : Byte) (e : TErr),
    let bs := [b0, b1, b2, b3, b4, b5, b6, b7]
    let exchange := s.bus ++ [⟨.write [0x33#8], .ok, [0x33#8]⟩, ⟨.read 8, .bytes bs, []⟩]
    (s.phase = .selection → s.answers = .ok :: .bytes bs :: rest → crc8 0x00#8 bs = 0x00#8 →
      exec .readAddress s = .next { s with
        a := b7 ++ b6 ++ b5 ++ b4 ++ b3 ++ b2 ++ b1 ++ b0, av := true, phase := .none,
        buf := ⟨b0, b1, b2, b3, b4, b5, b6, b7, s.buf.b8⟩, crc := 0x00#8, status := .ok, info := 0x00#8,
        answers := rest, bus := exchange, curOp := 0x33#8, sstep := 0#4, busy := false, reqPort := none }) ∧
    (s.phase = .selection → s.answers = .ok :: .bytes bs :: rest → crc8 0x00#8 bs ≠ 0x00#8 →
      exec .readAddress s = .next { s with
        av := false, phase := .none, buf := ⟨b0, b1, b2, b3, b4, b5, b6, b7, s.buf.b8⟩, crc := crc8 0x00#8 bs,
        status := .crcMismatch, info := crc8 0x00#8 bs,
        answers := rest, bus := exchange, curOp := 0x33#8, sstep := 0#4, busy := false, reqPort := none }) ∧
    (s.phase = .selection → s.answers = .err e :: rest → ∃ k d,
      exec .readAddress s = .next { s with
        av := false, phase := .none, terr := e, status := .transport, info := 0x00#8,
        answers := rest, bus := s.bus ++ [⟨.write [0x33#8], .err e, [0x33#8].take k⟩], draws := d,
        curOp := 0x33#8, sstep := 0#4, busy := false, reqPort := none }) ∧
    (s.phase = .selection → s.answers = .ok :: .err e :: rest → ∃ m d, m.b8 = s.buf.b8 ∧
      exec .readAddress s = .next { s with
        av := false, phase := .none, buf := m, terr := e, status := .transport, info := 0x00#8,
        answers := rest, bus := s.bus ++ [⟨.write [0x33#8], .ok, [0x33#8]⟩, ⟨.read 8, .err e, []⟩], draws := d,
        curOp := 0x33#8, sstep := 0#4, busy := false, reqPort := none }) ∧
    (s.phase ≠ .selection → exec .readAddress s = .next { s with
        av := false, phase := .none, status := .protocolViolation, info := 0x33#8,
        curOp := 0x33#8, sstep := 0#4, busy := false, reqPort := none })

/-- R112: `MATCH_ADDRESS a`: one 9-byte frame, the address as given; `A` and `AV` are not touched. -/
def Obligations.MatchAddressSendsNineBytes : Prop :=
  ∀ (a : Addr) (s : State) (rest : List Answer) (e : TErr),
    let w9 := [0x55#8, a.extractLsb' 0 8, a.extractLsb' 8 8, a.extractLsb' 16 8, a.extractLsb' 24 8, a.extractLsb' 32 8,
      a.extractLsb' 40 8, a.extractLsb' 48 8, a.extractLsb' 56 8]
    encode (.matchAddress a) = w9 ∧
    (s.phase = .selection → s.answers = .ok :: rest → exec (.matchAddress a) s = .next { s with
      phase := .memory, status := .ok, info := 0x00#8, opa := a,
      answers := rest, bus := s.bus ++ [⟨.write w9, .ok, w9⟩],
      curOp := 0x55#8, sstep := 0#4, busy := false, reqPort := none }) ∧
    (s.phase = .selection → s.answers = .err e :: rest → ∃ k d, exec (.matchAddress a) s = .next { s with
      phase := .none, terr := e, status := .transport, info := 0x00#8, opa := a,
      answers := rest, bus := s.bus ++ [⟨.write w9, .err e, w9.take k⟩], draws := d,
      curOp := 0x55#8, sstep := 0#4, busy := false, reqPort := none }) ∧
    (s.phase ≠ .selection → exec (.matchAddress a) s = .next { s with
      phase := .none, status := .protocolViolation, info := 0x55#8, opa := a,
      curOp := 0x55#8, sstep := 0#4, busy := false, reqPort := none })

/-- R113: `SKIP_ADDRESS`. -/
def Obligations.SkipAddressOpensTheMemoryPhase : Prop :=
  encode .skipAddress = [0xCC#8] ∧
  ∀ (s : State) (rest : List Answer) (e : TErr),
    (s.phase = .selection → s.answers = .ok :: rest → exec .skipAddress s = .next { s with
      phase := .memory, status := .ok, info := 0x00#8,
      answers := rest, bus := s.bus ++ [⟨.write [0xCC#8], .ok, [0xCC#8]⟩],
      curOp := 0xCC#8, sstep := 0#4, busy := false, reqPort := none }) ∧
    (s.phase = .selection → s.answers = .err e :: rest → ∃ k d, exec .skipAddress s = .next { s with
      phase := .none, terr := e, status := .transport, info := 0x00#8,
      answers := rest, bus := s.bus ++ [⟨.write [0xCC#8], .err e, [0xCC#8].take k⟩], draws := d,
      curOp := 0xCC#8, sstep := 0#4, busy := false, reqPort := none }) ∧
    (s.phase ≠ .selection → exec .skipAddress s = .next { s with
      phase := .none, status := .protocolViolation, info := 0xCC#8,
      curOp := 0xCC#8, sstep := 0#4, busy := false, reqPort := none })

/-- R114, R123, R124, R125, R146: the four stubs: `PROTOCOL_VIOLATION` in the wrong phase, else `UNIMPLEMENTED` with the operation
code; the phase is consumed and nothing reaches the bus. -/
def Obligations.StubsEndUnimplemented : Prop :=
  ∀ (i : Instr) (need : Phase) (code : Byte) (s : State),
    ((i = .searchAlarm ∧ need = .selection ∧ code = 0xEC#8) ∨ (i = .loadScratchpad ∧ need = .memory ∧ code = 0xB8#8) ∨
      (i = .saveScratchpad ∧ need = .memory ∧ code = 0x48#8) ∨ (i = .readPowerSupply ∧ need = .memory ∧ code = 0xB4#8)) →
    encode i = [code] ∧
    (s.phase = need → exec i s = .next { s with
      phase := .none, status := .unimplemented, info := code,
      curOp := code, sstep := 0#4, busy := false, reqPort := none }) ∧
    (s.phase ≠ need → exec i s = .next { s with
      phase := .none, status := .protocolViolation, info := code,
      curOp := code, sstep := 0#4, busy := false, reqPort := none })

/-! ## Memory commands -/

/-- R120, R149: `READ_SCRATCHPAD` in the memory phase: success; a failed write; a failed read; a failed CRC check, whatever byte
4 is; a malformed byte 4 after a passed CRC check. In the wrong phase `PROTOCOL_VIOLATION` and `SPV` = 0. -/
def Obligations.ReadScratchpadReadsChecksAndDecodes : Prop :=
  encode .readScratchpad = [0xBE#8] ∧
  ∀ (s : State) (rest : List Answer) (b0 b1 b2 b3 b4 b5 b6 b7 b8 : Byte) (e : TErr),
    let bs := [b0, b1, b2, b3, b4, b5, b6, b7, b8]
    let exchange := s.bus ++ [⟨.write [0xBE#8], .ok, [0xBE#8]⟩, ⟨.read 9, .bytes bs, []⟩]
    (s.phase = .memory → s.answers = .ok :: .bytes bs :: rest → crc8 0x00#8 bs = 0x00#8 → (b4 &&& 0x9F#8) = 0x1F#8 →
      exec .readScratchpad s = .next { s with
        temp := b0 ++ b1, th := b2, tl := b3, cfg := b4, spv := true, phase := .none,
        buf := ⟨b0, b1, b2, b3, b4, b5, b6, b7, b8⟩, crc := 0x00#8, status := .ok, info := 0x00#8,
        answers := rest, bus := exchange, curOp := 0xBE#8, sstep := 0#4, busy := false, reqPort := none }) ∧
    (s.phase = .memory → s.answers = .ok :: .bytes bs :: rest → crc8 0x00#8 bs ≠ 0x00#8 →
      exec .readScratchpad s = .next { s with
        spv := false, phase := .none, buf := ⟨b0, b1, b2, b3, b4, b5, b6, b7, b8⟩, crc := crc8 0x00#8 bs,
        status := .crcMismatch, info := crc8 0x00#8 bs,
        answers := rest, bus := exchange, curOp := 0xBE#8, sstep := 0#4, busy := false, reqPort := none }) ∧
    (s.phase = .memory → s.answers = .ok :: .bytes bs :: rest → crc8 0x00#8 bs = 0x00#8 → (b4 &&& 0x9F#8) ≠ 0x1F#8 →
      exec .readScratchpad s = .next { s with
        spv := false, phase := .none, buf := ⟨b0, b1, b2, b3, b4, b5, b6, b7, b8⟩, crc := 0x00#8,
        status := .configRegister, info := b4,
        answers := rest, bus := exchange, curOp := 0xBE#8, sstep := 0#4, busy := false, reqPort := none }) ∧
    (s.phase = .memory → s.answers = .err e :: rest → ∃ k d,
      exec .readScratchpad s = .next { s with
        spv := false, phase := .none, terr := e, status := .transport, info := 0x00#8,
        answers := rest, bus := s.bus ++ [⟨.write [0xBE#8], .err e, [0xBE#8].take k⟩], draws := d,
        curOp := 0xBE#8, sstep := 0#4, busy := false, reqPort := none }) ∧
    (s.phase = .memory → s.answers = .ok :: .err e :: rest → ∃ m d,
      exec .readScratchpad s = .next { s with
        spv := false, phase := .none, buf := m, terr := e, status := .transport, info := 0x00#8,
        answers := rest, bus := s.bus ++ [⟨.write [0xBE#8], .ok, [0xBE#8]⟩, ⟨.read 9, .err e, []⟩], draws := d,
        curOp := 0xBE#8, sstep := 0#4, busy := false, reqPort := none }) ∧
    (s.phase ≠ .memory → exec .readScratchpad s = .next { s with
        spv := false, phase := .none, status := .protocolViolation, info := 0xBE#8,
        curOp := 0xBE#8, sstep := 0#4, busy := false, reqPort := none })

/-- R121: `WRITE_SCRATCHPAD th, tl, r`: one 4-byte frame; `TH`, `TL`, `CFG`, `SPV` are not touched. Its word with a
nonzero reserved operand bit is illegal. -/
def Obligations.WriteScratchpadSendsFourBytes : Prop :=
  (∀ th tl r : Byte, r.extractLsb' 2 6 ≠ 0#6 → decode [0x4E#8, th, tl, r] = .illegal 0x4E#8) ∧
  ∀ (th tl : Byte) (res : Resolution) (s : State) (rest : List Answer) (e : TErr),
    let cfg : Byte := 0b0#1 ++ resCode res ++ 0b11111#5
    let w4 := [0x4E#8, th, tl, cfg]
    encode (.writeScratchpad th tl res) = [0x4E#8, th, tl, (resCode res).setWidth 8] ∧
    (s.phase = .memory → s.answers = .ok :: rest → exec (.writeScratchpad th tl res) s = .next { s with
      phase := .none, status := .ok, info := 0x00#8, opw := ⟨th, tl, cfg⟩,
      answers := rest, bus := s.bus ++ [⟨.write w4, .ok, w4⟩],
      curOp := 0x4E#8, sstep := 0#4, busy := false, reqPort := none }) ∧
    (s.phase = .memory → s.answers = .err e :: rest → ∃ k d, exec (.writeScratchpad th tl res) s = .next { s with
      phase := .none, terr := e, status := .transport, info := 0x00#8, opw := ⟨th, tl, cfg⟩,
      answers := rest, bus := s.bus ++ [⟨.write w4, .err e, w4.take k⟩], draws := d,
      curOp := 0x4E#8, sstep := 0#4, busy := false, reqPort := none }) ∧
    (s.phase ≠ .memory → exec (.writeScratchpad th tl res) s = .next { s with
      phase := .none, status := .protocolViolation, info := 0x4E#8, opw := ⟨th, tl, cfg⟩,
      curOp := 0x4E#8, sstep := 0#4, busy := false, reqPort := none })

/-- R122: `CONVERT_TEMPERATURE`: one 1-byte frame, then the wait of 750000 microseconds; no wait after a failed write. The
clause in which the wait is not over, a state with `BUSY` = 1 at s4, is the model's reading of R31 (assumptions 3 and 5). -/
def Obligations.ConvertTemperatureWritesThenWaits : Prop :=
  encode .convertTemperature = [0x44#8] ∧
  ∀ (s : State) (rest : List Answer) (e : TErr),
    (s.phase = .memory → s.answers = .ok :: .ok :: rest → exec .convertTemperature s = .next { s with
      phase := .none, status := .ok, info := 0x00#8,
      answers := rest, bus := s.bus ++ [⟨.write [0x44#8], .ok, [0x44#8]⟩, ⟨.delay 750000, .ok, []⟩],
      curOp := 0x44#8, sstep := 0#4, busy := false, reqPort := none }) ∧
    (s.phase = .memory → s.answers = [.ok] → exec .convertTemperature s = .next { s with
      phase := .none, answers := [], bus := s.bus ++ [⟨.write [0x44#8], .ok, [0x44#8]⟩],
      curOp := 0x44#8, sstep := 4#4, busy := true, reqPort := some (.delay 750000) }) ∧
    (s.phase = .memory → s.answers = .err e :: rest → ∃ k d, exec .convertTemperature s = .next { s with
      phase := .none, terr := e, status := .transport, info := 0x00#8,
      answers := rest, bus := s.bus ++ [⟨.write [0x44#8], .err e, [0x44#8].take k⟩], draws := d,
      curOp := 0x44#8, sstep := 0#4, busy := false, reqPort := none }) ∧
    (s.phase ≠ .memory → exec .convertTemperature s = .next { s with
      phase := .none, status := .protocolViolation, info := 0x44#8,
      curOp := 0x44#8, sstep := 0#4, busy := false, reqPort := none })

/-! ## Composite operations -/

/-- R130: `SEARCH f`: an item with the family code, an item without, a failed item, the end, and `next` with no enumeration
open. -/
def Obligations.SearchTakesOneItem : Prop :=
  ∀ (first : Bool) (s : State) (rest : List Answer) (a : Addr) (e : TErr),
    encode (.search first) = [0xF0#8, if first then 1#8 else 0#8] ∧
    (first = true ∨ s.so = true →
      (s.answers = .item a :: rest → a.extractLsb' 0 8 = 0x28#8 → exec (.search first) s = .next { s with
        av := true, a := a, so := true, phase := .none, status := .ok, info := 0x00#8,
        answers := rest, bus := s.bus ++ [⟨.searchNext first, .item a, []⟩],
        curOp := 0xF0#8, sstep := 0#4, busy := false, reqPort := none }) ∧
      (s.answers = .item a :: rest → a.extractLsb' 0 8 ≠ 0x28#8 → exec (.search first) s = .next { s with
        av := false, a := a, so := true, phase := .none, status := .familyCode, info := a.extractLsb' 0 8,
        answers := rest, bus := s.bus ++ [⟨.searchNext first, .item a, []⟩],
        curOp := 0xF0#8, sstep := 0#4, busy := false, reqPort := none }) ∧
      (s.answers = .itemErr e :: rest → exec (.search first) s = .next { s with
        av := false, so := true, phase := .none, terr := e, status := .transport, info := 0x00#8,
        answers := rest, bus := s.bus ++ [⟨.searchNext first, .itemErr e, []⟩],
        curOp := 0xF0#8, sstep := 0#4, busy := false, reqPort := none }) ∧
      (s.answers = .noMore :: rest → exec (.search first) s = .next { s with
        av := false, so := false, phase := .none, status := .searchEnd, info := 0x00#8,
        answers := rest, bus := s.bus ++ [⟨.searchNext first, .noMore, []⟩],
        curOp := 0xF0#8, sstep := 0#4, busy := false, reqPort := none })) ∧
    (first = false → s.so = false → exec (.search first) s = .next { s with
        av := false, phase := .none, status := .searchEnd, info := 0x00#8,
        curOp := 0xF0#8, sstep := 0#4, busy := false, reqPort := none })

/-- R131: `TEMPERATURE a` with every transport answer `OK`: its traffic, and the three outcomes of the image read. -/
def Obligations.TemperatureConvertsAndReads : Prop :=
  ∀ (a : Addr) (s : State) (rest : List Answer) (b0 b1 b2 b3 b4 b5 b6 b7 b8 : Byte),
    let bs := [b0, b1, b2, b3, b4, b5, b6, b7, b8]
    let w9 := 0x55#8 :: addrBytes a
    let traffic := s.bus ++ [⟨.reset, .ok, []⟩, ⟨.write w9, .ok, w9⟩, ⟨.write [0x44#8], .ok, [0x44#8]⟩,
      ⟨.delay 750000, .ok, []⟩, ⟨.reset, .ok, []⟩, ⟨.write w9, .ok, w9⟩, ⟨.write [0xBE#8], .ok, [0xBE#8]⟩,
      ⟨.read 9, .bytes bs, []⟩]
    encode (.temperature a) = 0x0A#8 :: addrBytes a ∧
    (s.answers = .ok :: .ok :: .ok :: .ok :: .ok :: .ok :: .ok :: .bytes bs :: rest →
      (crc8 0x00#8 bs = 0x00#8 → (b4 &&& 0x9F#8) = 0x1F#8 → exec (.temperature a) s = .next { s with
        temp := b0 ++ b1, th := b2, tl := b3, cfg := b4, spv := true, so := false, phase := .none,
        buf := ⟨b0, b1, b2, b3, b4, b5, b6, b7, b8⟩, crc := 0x00#8, status := .ok, info := 0x00#8, opa := a,
        answers := rest, bus := traffic, curOp := 0x0A#8, sstep := 0#4, busy := false, reqPort := none }) ∧
      (crc8 0x00#8 bs ≠ 0x00#8 → exec (.temperature a) s = .next { s with
        spv := false, so := false, phase := .none, buf := ⟨b0, b1, b2, b3, b4, b5, b6, b7, b8⟩, crc := crc8 0x00#8 bs,
        status := .crcMismatch, info := crc8 0x00#8 bs, opa := a,
        answers := rest, bus := traffic, curOp := 0x0A#8, sstep := 0#4, busy := false, reqPort := none }) ∧
      (crc8 0x00#8 bs = 0x00#8 → (b4 &&& 0x9F#8) ≠ 0x1F#8 → exec (.temperature a) s = .next { s with
        spv := false, so := false, phase := .none, buf := ⟨b0, b1, b2, b3, b4, b5, b6, b7, b8⟩, crc := 0x00#8,
        status := .configRegister, info := b4, opa := a,
        answers := rest, bus := traffic, curOp := 0x0A#8, sstep := 0#4, busy := false, reqPort := none }))

/-- R131, R141, R145: a transport failure of `TEMPERATURE` at each of its seven requests that can fail: the traffic up to it
and nothing more, `TRANSPORT`, and no session. `done` is how many of the requests before it were answered `OK`. -/
def Obligations.TemperatureStopsAtItsFirstFailure : Prop :=
  ∀ (a : Addr) (s : State) (rest : List Answer) (e : TErr) (done : Nat),
    let w9 := BusRequest.write (0x55#8 :: addrBytes a)
    let requests := [.reset, w9, .write [0x44#8], .delay 750000, .reset, w9, .write [0xBE#8], .read 9]
    done < 8 → done ≠ 3 → s.answers = List.replicate done .ok ++ .err e :: rest →
    ∃ m k d, (done ≠ 7 → m = s.buf) ∧ exec (.temperature a) s = .next { s with
      spv := false, so := false, phase := .none, buf := m, terr := e, status := .transport, info := 0x00#8, opa := a,
      answers := rest,
      bus := s.bus ++ (requests.take done).map (fun q => ⟨q, .ok, match q with | .write bytes => bytes | _ => []⟩) ++
        [⟨requests.getD done .reset, .err e,
          match requests.getD done .reset with | .write bytes => bytes.take k | _ => []⟩],
      draws := d, curOp := 0x0A#8, sstep := 0#4, busy := false, reqPort := none }

/-- R132: `TEMPERATURE a` and the six-operation program, from any state with the same answers, make the same requests, wait at
the same requests, and end with the same registers but for `CUR_OP`, `OPA` (host-invisible) and `SPV`; `SPV` is the same
wherever `TEMPERATURE` ends with `OK`. The spec marks the comparison as its own inference ("derived: from rule R131 and
43_selection_commands.md rules R110, R112 and 44_memory_commands.md rules R120, R122"). -/
def Obligations.TemperatureIsItsSixOperationProgram : Prop :=
  ∀ (a : Addr) (s t : State), exec (.temperature a) s = .next t →
    ∃ u, runProgram [.busReset, .matchAddress a, .convertTemperature, .busReset, .matchAddress a, .readScratchpad] s =
        .next u ∧
      u.busy = t.busy ∧ u.bus = t.bus ∧ u.answers = t.answers ∧ u.reqPort = t.reqPort ∧
      (t.busy = false → ∃ op x v, u = { t with curOp := op, opa := x, spv := v } ∧ (t.status = .ok → v = t.spv) ∧
        (v = t.spv ∨ (v = s.spv ∧ t.status = .transport)))

/-- R70 (c), R130: `search()` over an enumeration that has an end. It yields one result for every item, in the transport's
order, an address, a foreign address or a transport error, goes on after each, and stops at the end; the first request
restarts the enumeration and no other does. -/
def Obligations.SearchProgramYieldsEveryItem : Prop :=
  ∀ (s : State) (items : List (Except TErr Addr)) (rest : List Answer),
    let answered := items.map itemAnswer ++ [.noMore]
    s.answers = answered ++ rest →
    runSearch s =
      (items.map itemResult,
      .next { s with
        a := items.foldl itemAddr s.a, terr := items.foldl itemPayload s.terr,
        av := false, so := false, phase := .none, status := .searchEnd, info := 0x00#8, answers := rest,
        bus := s.bus ++ answered.zipIdx.map (fun x => ⟨.searchNext (x.2 == 0), x.1, []⟩),
        curOp := 0xF0#8, sstep := 0#4, busy := false, reqPort := none })

/-- R70 (c), R130, U11: from every state, `search()` ends with `SEARCH_END` and no enumeration open, or waits for an answer of
the transport: it is never cut short. That it waits in a state of its own is the model's reading (assumption 5). -/
def Obligations.SearchProgramEndsOrWaits : Prop :=
  ∀ s : State, ∃ results t, runSearch s = (results, .next t) ∧
    ((t.busy = false ∧ t.status = .searchEnd ∧ t.so = false) ∨ (t.busy = true ∧ t.curOp = 0xF0#8 ∧ t.reqPort.isSome = true))

/-! ## Errors and the host's view -/

/-- R28, R141, R7: the block never looks inside a transport error's payload: replacing every payload, in the register, in the
answers to come and in the record, by whatever function, replaces them in the outcome and changes nothing else. So the
open type `TERR` is an argument of the model (assumption 6). -/
def Obligations.TransportPayloadIsOnlyPassedOn : Prop :=
  ∀ f : TErr → TErr,
    (∀ (i : Instr) (s : State), exec i (s.mapPayload f) = mapPayloadOutcome f (exec i s)) ∧
    (∀ s : State, step (s.mapPayload f) = mapPayloadOutcome f (step s))

/-- R140, R24, R32: the numbers of the status and phase codes and the order of the flags. -/
def Obligations.StatusPhaseAndFlagCodes : Prop :=
  ([Status.ok, .transport, .crcMismatch, .familyCode, .configRegister, .deviceNotFound, .unimplemented, .protocolViolation,
    .illegalOperation, .searchEnd].map statusCode = [0#4, 1#4, 2#4, 3#4, 4#4, 5#4, 6#4, 7#4, 8#4, 9#4]) ∧
  (∀ k, statusIsError k = false ↔ k = .ok ∨ k = .searchEnd) ∧
  ([Phase.none, .selection, .memory].map phaseCode = [0#2, 1#2, 2#2]) ∧
  (∀ s : State, (flagsOf s).getLsbD 0 = s.busy ∧ (flagsOf s).getLsbD 1 = s.av ∧ (flagsOf s).getLsbD 2 = s.spv ∧
    (flagsOf s).getLsbD 3 = s.so)

/-- R153, R147: every error of a bus operation leaves `PHASE` = `NONE`; the errors of the pure operations leave it as it
was. -/
def Obligations.ErrorsOfBusOperationsCloseTheSession : Prop :=
  ∀ (i : Instr) (s t : State), exec i s = .next t → t.busy = false → statusIsError t.status = true →
    (isPure i = false → t.phase = .none) ∧ (isPure i = true → t.phase = s.phase)

/-- R21, R22, R32, R10, U4: what a host read of an idle block finds. While `SPV` is 0 the decoded registers have no meaning, `A`
none while `AV` is 0 but after a `FAMILY_CODE` error, the sequencer's registers are never readable; and presenting a word
changes no register. That a read without a valid flag has the answer "meaningless", and that `A` counts as readable after a
`FAMILY_CODE` error only while `STATUS` still shows it, is the model's choice (assumption 10). That `BUF`, `R` and `TERR` read
as values also before an operation has written them, where R32, R160 and U3 have a fault of the host program, is the
model's choice (DESIGN CHOICE, assumption 1): the value is then the one `State.reset` names, and the clause names none. -/
def Obligations.HostReadsRespectTheValidFlags : Prop :=
  ∀ s : State, s.busy = false →
    (s.spv = false → hostRead .rTEMP s = .meaningless ∧ hostRead .rTH s = .meaningless ∧ hostRead .rTL s = .meaningless ∧
      hostRead .rCFG s = .meaningless) ∧
    (s.spv = true → hostRead .rTEMP s = .value s.temp.toNat ∧ hostRead .rTH s = .value s.th.toNat ∧
      hostRead .rTL s = .value s.tl.toNat ∧ hostRead .rCFG s = .value s.cfg.toNat) ∧
    (s.av = true ∨ s.status = .familyCode → hostRead .rA s = .value s.a.toNat) ∧
    (s.av = false → s.status ≠ .familyCode → hostRead .rA s = .meaningless) ∧
    (hostRead .rSTATUS s = .value (statusCode s.status).toNat ∧ hostRead .rINFO s = .value s.info.toNat ∧
      hostRead .rPHASE s = .value (phaseCode s.phase).toNat ∧ hostRead .rFLAGS s = .value (flagsOf s).toNat ∧
      hostRead .rR s = .value s.r.toNat ∧ hostRead .rCRC s = .value s.crc.toNat ∧ hostRead .rTERR s = .payload s.terr) ∧
    (hostRead (.rBUF 0) s = .value s.buf.b0.toNat ∧ hostRead (.rBUF 1) s = .value s.buf.b1.toNat ∧
      hostRead (.rBUF 2) s = .value s.buf.b2.toNat ∧ hostRead (.rBUF 3) s = .value s.buf.b3.toNat ∧
      hostRead (.rBUF 4) s = .value s.buf.b4.toNat ∧ hostRead (.rBUF 5) s = .value s.buf.b5.toNat ∧
      hostRead (.rBUF 6) s = .value s.buf.b6.toNat ∧ hostRead (.rBUF 7) s = .value s.buf.b7.toNat ∧
      hostRead (.rBUF 8) s = .value s.buf.b8.toNat) ∧
    (hostRead .rCUROP s = .noAccess ∧ hostRead .rOPA s = .noAccess ∧ (∀ i, hostRead (.rOPW i) s = .noAccess) ∧
      hostRead .rSSTEP s = .noAccess) ∧
    (∀ w, present w s = { s with hostOps := s.hostOps ++ [w] })
end

