-- ==== Sys2Proof/Laws/Crc.lean ====
section
/-! SUPPORT. The CRC unit's algebra: each shift is linear and invertible, so the byte step is (40_crc8.md R80, R88). The laws
of `crc8` itself (R84) are statements for the provers. -/

namespace Sys2Proof.Machine

@[simp] theorem crc8_nil (c : Byte) : crc8 c [] = c := rfl

@[simp] theorem crc8_cons (c b : Byte) (bs : List Byte) : crc8 c (b :: bs) = crc8 (byteStep c b) bs := rfl

/-- The register and the byte enter the byte step only through their exclusive-or. -/
theorem byteStep_eq_xor (c b : Byte) : byteStep c b = byteStep 0x00#8 (c ^^^ b) := by
  simp [byteStep]

/-- The byte step is one to one on bytes: no nonzero byte goes to zero. -/
theorem byteStep_zero_iff (x : Byte) : byteStep 0x00#8 x = 0x00#8 ↔ x = 0x00#8 := by
  revert x
  decide +kernel

/-- Exclusive-or regroups in pairs. -/
theorem xor_pairs (c d b e : Byte) : c ^^^ d ^^^ (b ^^^ e) = c ^^^ b ^^^ (d ^^^ e) := by
  ac_rfl

/-- One shift is linear over bits. -/
theorem crcShift_xor (x y : Byte) : crcShift (x ^^^ y) = crcShift x ^^^ crcShift y := by
  simp only [crcShift, BitVec.getLsbD_xor, BitVec.ushiftRight_xor_distrib]
  cases x.getLsbD 0 <;> cases y.getLsbD 0
  · simp
  · simp only [Bool.false_xor, if_true, Bool.false_eq_true, if_false]
    ac_rfl
  · simp only [Bool.true_xor, Bool.not_false, if_true, Bool.false_eq_true, if_false]
    ac_rfl
  · simp only [Bool.true_xor, Bool.not_true, if_true, Bool.false_eq_true, if_false]
    rw [xor_pairs (x >>> 1)]
    simp

theorem crcShifts_xor (n : Nat) (x y : Byte) : crcShifts n (x ^^^ y) = crcShifts n x ^^^ crcShifts n y := by
  induction n generalizing x y with
  | zero => rfl
  | succ n ih => simp only [crcShifts, crcShift_xor, ih]

/-- The byte step is linear over bits. -/
theorem byteStep_xor (c d b e : Byte) : byteStep (c ^^^ d) (b ^^^ e) = byteStep c b ^^^ byteStep d e := by
  simp only [byteStep, ← crcShifts_xor]
  rw [xor_pairs]

end Sys2Proof.Machine
end

