-- ==== Sys2Proof/Laws/Encoding.lean ====
section
/-! SUPPORT. Packing and unpacking laws of the decoder and encoder: addresses, resolutions, images, and what each format's
parser accepts. -/

namespace Sys2Proof

/-- The eight bytes of an address, packed again, are the address. -/
@[simp] theorem addrOfBytes_addrByte (a : Addr) :
    addrOfBytes (addrByte a 0) (addrByte a 1) (addrByte a 2) (addrByte a 3) (addrByte a 4) (addrByte a 5) (addrByte a 6)
      (addrByte a 7) = a := by
  simp only [addrOfBytes, addrByte]
  rw [BitVec.extractLsb'_append_extractLsb'_eq_extractLsb' (by rfl),
    BitVec.extractLsb'_append_extractLsb'_eq_extractLsb' (by rfl),
    BitVec.extractLsb'_append_extractLsb'_eq_extractLsb' (by rfl),
    BitVec.extractLsb'_append_extractLsb'_eq_extractLsb' (by rfl),
    BitVec.extractLsb'_append_extractLsb'_eq_extractLsb' (by rfl),
    BitVec.extractLsb'_append_extractLsb'_eq_extractLsb' (by rfl),
    BitVec.extractLsb'_append_extractLsb'_eq_extractLsb' (by rfl)]
  simp

/-- Every resolution operand byte with its reserved bits clear is read back. -/
@[simp] theorem resOfOperand_operandOfRes (r : Resolution) : resOfOperand (operandOfRes r) = some r := by
  cases r <;> decide

theorem resOfOperand_some {b : Byte} {r : Resolution} (h : resOfOperand b = some r) : b = operandOfRes r := by
  unfold resOfOperand at h
  split_ifs at h with h0 h1 h2 h3 <;> (cases h; subst b; decide)

/-- A byte sequence that fits has its length in its length byte. -/
theorem length_ofNat {data : List Byte} (h : dataFits data = true) : (BitVec.ofNat 8 data.length).toNat = data.length := by
  simp only [dataFits, decide_eq_true_eq] at h
  simp only [BitVec.toNat_ofNat]
  omega

end Sys2Proof
end

