-- ==== Sys2Proof/Laws/State.lean ====
section
/-! SUPPORT. What each named update of State leaves in each field: one lemma per field per update, true by rfl, so that
no later proof unfolds an update. -/

namespace Sys2Proof.Machine

/-! `raise` -/

@[simp] theorem raise_a (k : Status) (v : Byte) (s : State) : (raise k v s).a = s.a := rfl
@[simp] theorem raise_buf (k : Status) (v : Byte) (s : State) : (raise k v s).buf = s.buf := rfl
@[simp] theorem raise_r (k : Status) (v : Byte) (s : State) : (raise k v s).r = s.r := rfl
@[simp] theorem raise_temp (k : Status) (v : Byte) (s : State) : (raise k v s).temp = s.temp := rfl
@[simp] theorem raise_th (k : Status) (v : Byte) (s : State) : (raise k v s).th = s.th := rfl
@[simp] theorem raise_tl (k : Status) (v : Byte) (s : State) : (raise k v s).tl = s.tl := rfl
@[simp] theorem raise_cfg (k : Status) (v : Byte) (s : State) : (raise k v s).cfg = s.cfg := rfl
@[simp] theorem raise_status (k : Status) (v : Byte) (s : State) : (raise k v s).status = k := rfl
@[simp] theorem raise_info (k : Status) (v : Byte) (s : State) : (raise k v s).info = v := rfl
@[simp] theorem raise_phase (k : Status) (v : Byte) (s : State) : (raise k v s).phase = s.phase := rfl
@[simp] theorem raise_so (k : Status) (v : Byte) (s : State) : (raise k v s).so = s.so := rfl
@[simp] theorem raise_spv (k : Status) (v : Byte) (s : State) : (raise k v s).spv = s.spv := rfl
@[simp] theorem raise_av (k : Status) (v : Byte) (s : State) : (raise k v s).av = s.av := rfl
@[simp] theorem raise_busy (k : Status) (v : Byte) (s : State) : (raise k v s).busy = false := rfl
@[simp] theorem raise_crc (k : Status) (v : Byte) (s : State) : (raise k v s).crc = s.crc := rfl
@[simp] theorem raise_terr (k : Status) (v : Byte) (s : State) : (raise k v s).terr = s.terr := rfl
@[simp] theorem raise_curOp (k : Status) (v : Byte) (s : State) : (raise k v s).curOp = s.curOp := rfl
@[simp] theorem raise_opa (k : Status) (v : Byte) (s : State) : (raise k v s).opa = s.opa := rfl
@[simp] theorem raise_opw (k : Status) (v : Byte) (s : State) : (raise k v s).opw = s.opw := rfl
@[simp] theorem raise_sstep (k : Status) (v : Byte) (s : State) : (raise k v s).sstep = 0#4 := rfl
@[simp] theorem raise_reqPort (k : Status) (v : Byte) (s : State) : (raise k v s).reqPort = s.reqPort := rfl
@[simp] theorem raise_hostOps (k : Status) (v : Byte) (s : State) : (raise k v s).hostOps = s.hostOps := rfl
@[simp] theorem raise_answers (k : Status) (v : Byte) (s : State) : (raise k v s).answers = s.answers := rfl
@[simp] theorem raise_bus (k : Status) (v : Byte) (s : State) : (raise k v s).bus = s.bus := rfl
@[simp] theorem raise_draws (k : Status) (v : Byte) (s : State) : (raise k v s).draws = s.draws := rfl

/-! `endOp` -/

@[simp] theorem endOp_a (s : State) : (endOp s).a = s.a := rfl
@[simp] theorem endOp_buf (s : State) : (endOp s).buf = s.buf := rfl
@[simp] theorem endOp_r (s : State) : (endOp s).r = s.r := rfl
@[simp] theorem endOp_temp (s : State) : (endOp s).temp = s.temp := rfl
@[simp] theorem endOp_th (s : State) : (endOp s).th = s.th := rfl
@[simp] theorem endOp_tl (s : State) : (endOp s).tl = s.tl := rfl
@[simp] theorem endOp_cfg (s : State) : (endOp s).cfg = s.cfg := rfl
@[simp] theorem endOp_status (s : State) : (endOp s).status = s.status := rfl
@[simp] theorem endOp_info (s : State) : (endOp s).info = s.info := rfl
@[simp] theorem endOp_phase (s : State) : (endOp s).phase = s.phase := rfl
@[simp] theorem endOp_so (s : State) : (endOp s).so = s.so := rfl
@[simp] theorem endOp_spv (s : State) : (endOp s).spv = s.spv := rfl
@[simp] theorem endOp_av (s : State) : (endOp s).av = s.av := rfl
@[simp] theorem endOp_busy (s : State) : (endOp s).busy = false := rfl
@[simp] theorem endOp_crc (s : State) : (endOp s).crc = s.crc := rfl
@[simp] theorem endOp_terr (s : State) : (endOp s).terr = s.terr := rfl
@[simp] theorem endOp_curOp (s : State) : (endOp s).curOp = s.curOp := rfl
@[simp] theorem endOp_opa (s : State) : (endOp s).opa = s.opa := rfl
@[simp] theorem endOp_opw (s : State) : (endOp s).opw = s.opw := rfl
@[simp] theorem endOp_sstep (s : State) : (endOp s).sstep = 0#4 := rfl
@[simp] theorem endOp_reqPort (s : State) : (endOp s).reqPort = s.reqPort := rfl
@[simp] theorem endOp_hostOps (s : State) : (endOp s).hostOps = s.hostOps := rfl
@[simp] theorem endOp_answers (s : State) : (endOp s).answers = s.answers := rfl
@[simp] theorem endOp_bus (s : State) : (endOp s).bus = s.bus := rfl
@[simp] theorem endOp_draws (s : State) : (endOp s).draws = s.draws := rfl

/-! `report` -/

@[simp] theorem report_a (k : Status) (s : State) : (report k s).a = s.a := rfl
@[simp] theorem report_buf (k : Status) (s : State) : (report k s).buf = s.buf := rfl
@[simp] theorem report_r (k : Status) (s : State) : (report k s).r = s.r := rfl
@[simp] theorem report_temp (k : Status) (s : State) : (report k s).temp = s.temp := rfl
@[simp] theorem report_th (k : Status) (s : State) : (report k s).th = s.th := rfl
@[simp] theorem report_tl (k : Status) (s : State) : (report k s).tl = s.tl := rfl
@[simp] theorem report_cfg (k : Status) (s : State) : (report k s).cfg = s.cfg := rfl
@[simp] theorem report_status (k : Status) (s : State) : (report k s).status = k := rfl
@[simp] theorem report_info (k : Status) (s : State) : (report k s).info = 0x00#8 := rfl
@[simp] theorem report_phase (k : Status) (s : State) : (report k s).phase = s.phase := rfl
@[simp] theorem report_so (k : Status) (s : State) : (report k s).so = s.so := rfl
@[simp] theorem report_spv (k : Status) (s : State) : (report k s).spv = s.spv := rfl
@[simp] theorem report_av (k : Status) (s : State) : (report k s).av = s.av := rfl
@[simp] theorem report_busy (k : Status) (s : State) : (report k s).busy = s.busy := rfl
@[simp] theorem report_crc (k : Status) (s : State) : (report k s).crc = s.crc := rfl
@[simp] theorem report_terr (k : Status) (s : State) : (report k s).terr = s.terr := rfl
@[simp] theorem report_curOp (k : Status) (s : State) : (report k s).curOp = s.curOp := rfl
@[simp] theorem report_opa (k : Status) (s : State) : (report k s).opa = s.opa := rfl
@[simp] theorem report_opw (k : Status) (s : State) : (report k s).opw = s.opw := rfl
@[simp] theorem report_sstep (k : Status) (s : State) : (report k s).sstep = s.sstep := rfl
@[simp] theorem report_reqPort (k : Status) (s : State) : (report k s).reqPort = s.reqPort := rfl
@[simp] theorem report_hostOps (k : Status) (s : State) : (report k s).hostOps = s.hostOps := rfl
@[simp] theorem report_answers (k : Status) (s : State) : (report k s).answers = s.answers := rfl
@[simp] theorem report_bus (k : Status) (s : State) : (report k s).bus = s.bus := rfl
@[simp] theorem report_draws (k : Status) (s : State) : (report k s).draws = s.draws := rfl

/-! `accept` -/

@[simp] theorem accept_a (op : Byte) (s : State) : (accept op s).a = s.a := rfl
@[simp] theorem accept_buf (op : Byte) (s : State) : (accept op s).buf = s.buf := rfl
@[simp] theorem accept_r (op : Byte) (s : State) : (accept op s).r = s.r := rfl
@[simp] theorem accept_temp (op : Byte) (s : State) : (accept op s).temp = s.temp := rfl
@[simp] theorem accept_th (op : Byte) (s : State) : (accept op s).th = s.th := rfl
@[simp] theorem accept_tl (op : Byte) (s : State) : (accept op s).tl = s.tl := rfl
@[simp] theorem accept_cfg (op : Byte) (s : State) : (accept op s).cfg = s.cfg := rfl
@[simp] theorem accept_status (op : Byte) (s : State) : (accept op s).status = s.status := rfl
@[simp] theorem accept_info (op : Byte) (s : State) : (accept op s).info = s.info := rfl
@[simp] theorem accept_phase (op : Byte) (s : State) : (accept op s).phase = s.phase := rfl
@[simp] theorem accept_so (op : Byte) (s : State) : (accept op s).so = s.so := rfl
@[simp] theorem accept_spv (op : Byte) (s : State) : (accept op s).spv = s.spv := rfl
@[simp] theorem accept_av (op : Byte) (s : State) : (accept op s).av = s.av := rfl
@[simp] theorem accept_busy (op : Byte) (s : State) : (accept op s).busy = true := rfl
@[simp] theorem accept_crc (op : Byte) (s : State) : (accept op s).crc = s.crc := rfl
@[simp] theorem accept_terr (op : Byte) (s : State) : (accept op s).terr = s.terr := rfl
@[simp] theorem accept_curOp (op : Byte) (s : State) : (accept op s).curOp = op := rfl
@[simp] theorem accept_opa (op : Byte) (s : State) : (accept op s).opa = s.opa := rfl
@[simp] theorem accept_opw (op : Byte) (s : State) : (accept op s).opw = s.opw := rfl
@[simp] theorem accept_sstep (op : Byte) (s : State) : (accept op s).sstep = 1#4 := rfl
@[simp] theorem accept_reqPort (op : Byte) (s : State) : (accept op s).reqPort = none := rfl
@[simp] theorem accept_hostOps (op : Byte) (s : State) : (accept op s).hostOps = s.hostOps := rfl
@[simp] theorem accept_answers (op : Byte) (s : State) : (accept op s).answers = s.answers := rfl
@[simp] theorem accept_bus (op : Byte) (s : State) : (accept op s).bus = s.bus := rfl
@[simp] theorem accept_draws (op : Byte) (s : State) : (accept op s).draws = s.draws := rfl

/-! `latchAddr` -/

@[simp] theorem latchAddr_a (x : Addr) (s : State) : (latchAddr x s).a = s.a := rfl
@[simp] theorem latchAddr_buf (x : Addr) (s : State) : (latchAddr x s).buf = s.buf := rfl
@[simp] theorem latchAddr_r (x : Addr) (s : State) : (latchAddr x s).r = s.r := rfl
@[simp] theorem latchAddr_temp (x : Addr) (s : State) : (latchAddr x s).temp = s.temp := rfl
@[simp] theorem latchAddr_th (x : Addr) (s : State) : (latchAddr x s).th = s.th := rfl
@[simp] theorem latchAddr_tl (x : Addr) (s : State) : (latchAddr x s).tl = s.tl := rfl
@[simp] theorem latchAddr_cfg (x : Addr) (s : State) : (latchAddr x s).cfg = s.cfg := rfl
@[simp] theorem latchAddr_status (x : Addr) (s : State) : (latchAddr x s).status = s.status := rfl
@[simp] theorem latchAddr_info (x : Addr) (s : State) : (latchAddr x s).info = s.info := rfl
@[simp] theorem latchAddr_phase (x : Addr) (s : State) : (latchAddr x s).phase = s.phase := rfl
@[simp] theorem latchAddr_so (x : Addr) (s : State) : (latchAddr x s).so = s.so := rfl
@[simp] theorem latchAddr_spv (x : Addr) (s : State) : (latchAddr x s).spv = s.spv := rfl
@[simp] theorem latchAddr_av (x : Addr) (s : State) : (latchAddr x s).av = s.av := rfl
@[simp] theorem latchAddr_busy (x : Addr) (s : State) : (latchAddr x s).busy = s.busy := rfl
@[simp] theorem latchAddr_crc (x : Addr) (s : State) : (latchAddr x s).crc = s.crc := rfl
@[simp] theorem latchAddr_terr (x : Addr) (s : State) : (latchAddr x s).terr = s.terr := rfl
@[simp] theorem latchAddr_curOp (x : Addr) (s : State) : (latchAddr x s).curOp = s.curOp := rfl
@[simp] theorem latchAddr_opa (x : Addr) (s : State) : (latchAddr x s).opa = x := rfl
@[simp] theorem latchAddr_opw (x : Addr) (s : State) : (latchAddr x s).opw = s.opw := rfl
@[simp] theorem latchAddr_sstep (x : Addr) (s : State) : (latchAddr x s).sstep = s.sstep := rfl
@[simp] theorem latchAddr_reqPort (x : Addr) (s : State) : (latchAddr x s).reqPort = s.reqPort := rfl
@[simp] theorem latchAddr_hostOps (x : Addr) (s : State) : (latchAddr x s).hostOps = s.hostOps := rfl
@[simp] theorem latchAddr_answers (x : Addr) (s : State) : (latchAddr x s).answers = s.answers := rfl
@[simp] theorem latchAddr_bus (x : Addr) (s : State) : (latchAddr x s).bus = s.bus := rfl
@[simp] theorem latchAddr_draws (x : Addr) (s : State) : (latchAddr x s).draws = s.draws := rfl

/-! `latchWrite` -/

@[simp] theorem latchWrite_a (m : Image3) (s : State) : (latchWrite m s).a = s.a := rfl
@[simp] theorem latchWrite_buf (m : Image3) (s : State) : (latchWrite m s).buf = s.buf := rfl
@[simp] theorem latchWrite_r (m : Image3) (s : State) : (latchWrite m s).r = s.r := rfl
@[simp] theorem latchWrite_temp (m : Image3) (s : State) : (latchWrite m s).temp = s.temp := rfl
@[simp] theorem latchWrite_th (m : Image3) (s : State) : (latchWrite m s).th = s.th := rfl
@[simp] theorem latchWrite_tl (m : Image3) (s : State) : (latchWrite m s).tl = s.tl := rfl
@[simp] theorem latchWrite_cfg (m : Image3) (s : State) : (latchWrite m s).cfg = s.cfg := rfl
@[simp] theorem latchWrite_status (m : Image3) (s : State) : (latchWrite m s).status = s.status := rfl
@[simp] theorem latchWrite_info (m : Image3) (s : State) : (latchWrite m s).info = s.info := rfl
@[simp] theorem latchWrite_phase (m : Image3) (s : State) : (latchWrite m s).phase = s.phase := rfl
@[simp] theorem latchWrite_so (m : Image3) (s : State) : (latchWrite m s).so = s.so := rfl
@[simp] theorem latchWrite_spv (m : Image3) (s : State) : (latchWrite m s).spv = s.spv := rfl
@[simp] theorem latchWrite_av (m : Image3) (s : State) : (latchWrite m s).av = s.av := rfl
@[simp] theorem latchWrite_busy (m : Image3) (s : State) : (latchWrite m s).busy = s.busy := rfl
@[simp] theorem latchWrite_crc (m : Image3) (s : State) : (latchWrite m s).crc = s.crc := rfl
@[simp] theorem latchWrite_terr (m : Image3) (s : State) : (latchWrite m s).terr = s.terr := rfl
@[simp] theorem latchWrite_curOp (m : Image3) (s : State) : (latchWrite m s).curOp = s.curOp := rfl
@[simp] theorem latchWrite_opa (m : Image3) (s : State) : (latchWrite m s).opa = s.opa := rfl
@[simp] theorem latchWrite_opw (m : Image3) (s : State) : (latchWrite m s).opw = m := rfl
@[simp] theorem latchWrite_sstep (m : Image3) (s : State) : (latchWrite m s).sstep = s.sstep := rfl
@[simp] theorem latchWrite_reqPort (m : Image3) (s : State) : (latchWrite m s).reqPort = s.reqPort := rfl
@[simp] theorem latchWrite_hostOps (m : Image3) (s : State) : (latchWrite m s).hostOps = s.hostOps := rfl
@[simp] theorem latchWrite_answers (m : Image3) (s : State) : (latchWrite m s).answers = s.answers := rfl
@[simp] theorem latchWrite_bus (m : Image3) (s : State) : (latchWrite m s).bus = s.bus := rfl
@[simp] theorem latchWrite_draws (m : Image3) (s : State) : (latchWrite m s).draws = s.draws := rfl

/-! `offer` -/

@[simp] theorem offer_a (q : BusRequest) (s : State) : (offer q s).a = s.a := rfl
@[simp] theorem offer_buf (q : BusRequest) (s : State) : (offer q s).buf = s.buf := rfl
@[simp] theorem offer_r (q : BusRequest) (s : State) : (offer q s).r = s.r := rfl
@[simp] theorem offer_temp (q : BusRequest) (s : State) : (offer q s).temp = s.temp := rfl
@[simp] theorem offer_th (q : BusRequest) (s : State) : (offer q s).th = s.th := rfl
@[simp] theorem offer_tl (q : BusRequest) (s : State) : (offer q s).tl = s.tl := rfl
@[simp] theorem offer_cfg (q : BusRequest) (s : State) : (offer q s).cfg = s.cfg := rfl
@[simp] theorem offer_status (q : BusRequest) (s : State) : (offer q s).status = s.status := rfl
@[simp] theorem offer_info (q : BusRequest) (s : State) : (offer q s).info = s.info := rfl
@[simp] theorem offer_phase (q : BusRequest) (s : State) : (offer q s).phase = s.phase := rfl
@[simp] theorem offer_so (q : BusRequest) (s : State) : (offer q s).so = s.so := rfl
@[simp] theorem offer_spv (q : BusRequest) (s : State) : (offer q s).spv = s.spv := rfl
@[simp] theorem offer_av (q : BusRequest) (s : State) : (offer q s).av = s.av := rfl
@[simp] theorem offer_busy (q : BusRequest) (s : State) : (offer q s).busy = s.busy := rfl
@[simp] theorem offer_crc (q : BusRequest) (s : State) : (offer q s).crc = s.crc := rfl
@[simp] theorem offer_terr (q : BusRequest) (s : State) : (offer q s).terr = s.terr := rfl
@[simp] theorem offer_curOp (q : BusRequest) (s : State) : (offer q s).curOp = s.curOp := rfl
@[simp] theorem offer_opa (q : BusRequest) (s : State) : (offer q s).opa = s.opa := rfl
@[simp] theorem offer_opw (q : BusRequest) (s : State) : (offer q s).opw = s.opw := rfl
@[simp] theorem offer_sstep (q : BusRequest) (s : State) : (offer q s).sstep = s.sstep := rfl
@[simp] theorem offer_reqPort (q : BusRequest) (s : State) : (offer q s).reqPort = some q := rfl
@[simp] theorem offer_hostOps (q : BusRequest) (s : State) : (offer q s).hostOps = s.hostOps := rfl
@[simp] theorem offer_answers (q : BusRequest) (s : State) : (offer q s).answers = s.answers := rfl
@[simp] theorem offer_bus (q : BusRequest) (s : State) : (offer q s).bus = s.bus := rfl
@[simp] theorem offer_draws (q : BusRequest) (s : State) : (offer q s).draws = s.draws := rfl

/-! `takeAnswer` -/

@[simp] theorem takeAnswer_a (q : BusRequest) (ans : Answer) (rest : List Answer) (s : State) : (takeAnswer q ans rest s).a = s.a := rfl
@[simp] theorem takeAnswer_buf (q : BusRequest) (ans : Answer) (rest : List Answer) (s : State) : (takeAnswer q ans rest s).buf = s.buf := rfl
@[simp] theorem takeAnswer_r (q : BusRequest) (ans : Answer) (rest : List Answer) (s : State) : (takeAnswer q ans rest s).r = s.r := rfl
@[simp] theorem takeAnswer_temp (q : BusRequest) (ans : Answer) (rest : List Answer) (s : State) : (takeAnswer q ans rest s).temp = s.temp := rfl
@[simp] theorem takeAnswer_th (q : BusRequest) (ans : Answer) (rest : List Answer) (s : State) : (takeAnswer q ans rest s).th = s.th := rfl
@[simp] theorem takeAnswer_tl (q : BusRequest) (ans : Answer) (rest : List Answer) (s : State) : (takeAnswer q ans rest s).tl = s.tl := rfl
@[simp] theorem takeAnswer_cfg (q : BusRequest) (ans : Answer) (rest : List Answer) (s : State) : (takeAnswer q ans rest s).cfg = s.cfg := rfl
@[simp] theorem takeAnswer_status (q : BusRequest) (ans : Answer) (rest : List Answer) (s : State) : (takeAnswer q ans rest s).status = s.status := rfl
@[simp] theorem takeAnswer_info (q : BusRequest) (ans : Answer) (rest : List Answer) (s : State) : (takeAnswer q ans rest s).info = s.info := rfl
@[simp] theorem takeAnswer_phase (q : BusRequest) (ans : Answer) (rest : List Answer) (s : State) : (takeAnswer q ans rest s).phase = s.phase := rfl
@[simp] theorem takeAnswer_so (q : BusRequest) (ans : Answer) (rest : List Answer) (s : State) : (takeAnswer q ans rest s).so = s.so := rfl
@[simp] theorem takeAnswer_spv (q : BusRequest) (ans : Answer) (rest : List Answer) (s : State) : (takeAnswer q ans rest s).spv = s.spv := rfl
@[simp] theorem takeAnswer_av (q : BusRequest) (ans : Answer) (rest : List Answer) (s : State) : (takeAnswer q ans rest s).av = s.av := rfl
@[simp] theorem takeAnswer_busy (q : BusRequest) (ans : Answer) (rest : List Answer) (s : State) : (takeAnswer q ans rest s).busy = s.busy := rfl
@[simp] theorem takeAnswer_crc (q : BusRequest) (ans : Answer) (rest : List Answer) (s : State) : (takeAnswer q ans rest s).crc = s.crc := rfl
@[simp] theorem takeAnswer_terr (q : BusRequest) (ans : Answer) (rest : List Answer) (s : State) : (takeAnswer q ans rest s).terr = s.terr := rfl
@[simp] theorem takeAnswer_curOp (q : BusRequest) (ans : Answer) (rest : List Answer) (s : State) : (takeAnswer q ans rest s).curOp = s.curOp := rfl
@[simp] theorem takeAnswer_opa (q : BusRequest) (ans : Answer) (rest : List Answer) (s : State) : (takeAnswer q ans rest s).opa = s.opa := rfl
@[simp] theorem takeAnswer_opw (q : BusRequest) (ans : Answer) (rest : List Answer) (s : State) : (takeAnswer q ans rest s).opw = s.opw := rfl
@[simp] theorem takeAnswer_sstep (q : BusRequest) (ans : Answer) (rest : List Answer) (s : State) : (takeAnswer q ans rest s).sstep = s.sstep := rfl
@[simp] theorem takeAnswer_reqPort (q : BusRequest) (ans : Answer) (rest : List Answer) (s : State) : (takeAnswer q ans rest s).reqPort = none := rfl
@[simp] theorem takeAnswer_hostOps (q : BusRequest) (ans : Answer) (rest : List Answer) (s : State) : (takeAnswer q ans rest s).hostOps = s.hostOps := rfl
@[simp] theorem takeAnswer_answers (q : BusRequest) (ans : Answer) (rest : List Answer) (s : State) : (takeAnswer q ans rest s).answers = rest := rfl
@[simp] theorem takeAnswer_bus (q : BusRequest) (ans : Answer) (rest : List Answer) (s : State) : (takeAnswer q ans rest s).bus = s.bus ++ [⟨q, ans, wireOf s.draws q ans⟩] := rfl
@[simp] theorem takeAnswer_draws (q : BusRequest) (ans : Answer) (rest : List Answer) (s : State) : (takeAnswer q ans rest s).draws = s.draws + drawsOf q ans := rfl

/-! `transportError` -/

@[simp] theorem transportError_a (e : TErr) (s : State) : (transportError e s).a = s.a := rfl
@[simp] theorem transportError_buf (e : TErr) (s : State) : (transportError e s).buf = s.buf := rfl
@[simp] theorem transportError_r (e : TErr) (s : State) : (transportError e s).r = s.r := rfl
@[simp] theorem transportError_temp (e : TErr) (s : State) : (transportError e s).temp = s.temp := rfl
@[simp] theorem transportError_th (e : TErr) (s : State) : (transportError e s).th = s.th := rfl
@[simp] theorem transportError_tl (e : TErr) (s : State) : (transportError e s).tl = s.tl := rfl
@[simp] theorem transportError_cfg (e : TErr) (s : State) : (transportError e s).cfg = s.cfg := rfl
@[simp] theorem transportError_status (e : TErr) (s : State) : (transportError e s).status = .transport := rfl
@[simp] theorem transportError_info (e : TErr) (s : State) : (transportError e s).info = 0x00#8 := rfl
@[simp] theorem transportError_phase (e : TErr) (s : State) : (transportError e s).phase = s.phase := rfl
@[simp] theorem transportError_so (e : TErr) (s : State) : (transportError e s).so = s.so := rfl
@[simp] theorem transportError_spv (e : TErr) (s : State) : (transportError e s).spv = s.spv := rfl
@[simp] theorem transportError_av (e : TErr) (s : State) : (transportError e s).av = s.av := rfl
@[simp] theorem transportError_busy (e : TErr) (s : State) : (transportError e s).busy = false := rfl
@[simp] theorem transportError_crc (e : TErr) (s : State) : (transportError e s).crc = s.crc := rfl
@[simp] theorem transportError_terr (e : TErr) (s : State) : (transportError e s).terr = e := rfl
@[simp] theorem transportError_curOp (e : TErr) (s : State) : (transportError e s).curOp = s.curOp := rfl
@[simp] theorem transportError_opa (e : TErr) (s : State) : (transportError e s).opa = s.opa := rfl
@[simp] theorem transportError_opw (e : TErr) (s : State) : (transportError e s).opw = s.opw := rfl
@[simp] theorem transportError_sstep (e : TErr) (s : State) : (transportError e s).sstep = 0#4 := rfl
@[simp] theorem transportError_reqPort (e : TErr) (s : State) : (transportError e s).reqPort = s.reqPort := rfl
@[simp] theorem transportError_hostOps (e : TErr) (s : State) : (transportError e s).hostOps = s.hostOps := rfl
@[simp] theorem transportError_answers (e : TErr) (s : State) : (transportError e s).answers = s.answers := rfl
@[simp] theorem transportError_bus (e : TErr) (s : State) : (transportError e s).bus = s.bus := rfl
@[simp] theorem transportError_draws (e : TErr) (s : State) : (transportError e s).draws = s.draws := rfl

/-! `setPhase` -/

@[simp] theorem setPhase_a (p : Phase) (s : State) : (setPhase p s).a = s.a := rfl
@[simp] theorem setPhase_buf (p : Phase) (s : State) : (setPhase p s).buf = s.buf := rfl
@[simp] theorem setPhase_r (p : Phase) (s : State) : (setPhase p s).r = s.r := rfl
@[simp] theorem setPhase_temp (p : Phase) (s : State) : (setPhase p s).temp = s.temp := rfl
@[simp] theorem setPhase_th (p : Phase) (s : State) : (setPhase p s).th = s.th := rfl
@[simp] theorem setPhase_tl (p : Phase) (s : State) : (setPhase p s).tl = s.tl := rfl
@[simp] theorem setPhase_cfg (p : Phase) (s : State) : (setPhase p s).cfg = s.cfg := rfl
@[simp] theorem setPhase_status (p : Phase) (s : State) : (setPhase p s).status = s.status := rfl
@[simp] theorem setPhase_info (p : Phase) (s : State) : (setPhase p s).info = s.info := rfl
@[simp] theorem setPhase_phase (p : Phase) (s : State) : (setPhase p s).phase = p := rfl
@[simp] theorem setPhase_so (p : Phase) (s : State) : (setPhase p s).so = s.so := rfl
@[simp] theorem setPhase_spv (p : Phase) (s : State) : (setPhase p s).spv = s.spv := rfl
@[simp] theorem setPhase_av (p : Phase) (s : State) : (setPhase p s).av = s.av := rfl
@[simp] theorem setPhase_busy (p : Phase) (s : State) : (setPhase p s).busy = s.busy := rfl
@[simp] theorem setPhase_crc (p : Phase) (s : State) : (setPhase p s).crc = s.crc := rfl
@[simp] theorem setPhase_terr (p : Phase) (s : State) : (setPhase p s).terr = s.terr := rfl
@[simp] theorem setPhase_curOp (p : Phase) (s : State) : (setPhase p s).curOp = s.curOp := rfl
@[simp] theorem setPhase_opa (p : Phase) (s : State) : (setPhase p s).opa = s.opa := rfl
@[simp] theorem setPhase_opw (p : Phase) (s : State) : (setPhase p s).opw = s.opw := rfl
@[simp] theorem setPhase_sstep (p : Phase) (s : State) : (setPhase p s).sstep = s.sstep := rfl
@[simp] theorem setPhase_reqPort (p : Phase) (s : State) : (setPhase p s).reqPort = s.reqPort := rfl
@[simp] theorem setPhase_hostOps (p : Phase) (s : State) : (setPhase p s).hostOps = s.hostOps := rfl
@[simp] theorem setPhase_answers (p : Phase) (s : State) : (setPhase p s).answers = s.answers := rfl
@[simp] theorem setPhase_bus (p : Phase) (s : State) : (setPhase p s).bus = s.bus := rfl
@[simp] theorem setPhase_draws (p : Phase) (s : State) : (setPhase p s).draws = s.draws := rfl

/-! `feedCrc` -/

@[simp] theorem feedCrc_a (seed : Byte) (bs : List Byte) (s : State) : (feedCrc seed bs s).a = s.a := rfl
@[simp] theorem feedCrc_buf (seed : Byte) (bs : List Byte) (s : State) : (feedCrc seed bs s).buf = s.buf := rfl
@[simp] theorem feedCrc_r (seed : Byte) (bs : List Byte) (s : State) : (feedCrc seed bs s).r = s.r := rfl
@[simp] theorem feedCrc_temp (seed : Byte) (bs : List Byte) (s : State) : (feedCrc seed bs s).temp = s.temp := rfl
@[simp] theorem feedCrc_th (seed : Byte) (bs : List Byte) (s : State) : (feedCrc seed bs s).th = s.th := rfl
@[simp] theorem feedCrc_tl (seed : Byte) (bs : List Byte) (s : State) : (feedCrc seed bs s).tl = s.tl := rfl
@[simp] theorem feedCrc_cfg (seed : Byte) (bs : List Byte) (s : State) : (feedCrc seed bs s).cfg = s.cfg := rfl
@[simp] theorem feedCrc_status (seed : Byte) (bs : List Byte) (s : State) : (feedCrc seed bs s).status = s.status := rfl
@[simp] theorem feedCrc_info (seed : Byte) (bs : List Byte) (s : State) : (feedCrc seed bs s).info = s.info := rfl
@[simp] theorem feedCrc_phase (seed : Byte) (bs : List Byte) (s : State) : (feedCrc seed bs s).phase = s.phase := rfl
@[simp] theorem feedCrc_so (seed : Byte) (bs : List Byte) (s : State) : (feedCrc seed bs s).so = s.so := rfl
@[simp] theorem feedCrc_spv (seed : Byte) (bs : List Byte) (s : State) : (feedCrc seed bs s).spv = s.spv := rfl
@[simp] theorem feedCrc_av (seed : Byte) (bs : List Byte) (s : State) : (feedCrc seed bs s).av = s.av := rfl
@[simp] theorem feedCrc_busy (seed : Byte) (bs : List Byte) (s : State) : (feedCrc seed bs s).busy = s.busy := rfl
@[simp] theorem feedCrc_crc (seed : Byte) (bs : List Byte) (s : State) : (feedCrc seed bs s).crc = crc8 seed bs := rfl
@[simp] theorem feedCrc_terr (seed : Byte) (bs : List Byte) (s : State) : (feedCrc seed bs s).terr = s.terr := rfl
@[simp] theorem feedCrc_curOp (seed : Byte) (bs : List Byte) (s : State) : (feedCrc seed bs s).curOp = s.curOp := rfl
@[simp] theorem feedCrc_opa (seed : Byte) (bs : List Byte) (s : State) : (feedCrc seed bs s).opa = s.opa := rfl
@[simp] theorem feedCrc_opw (seed : Byte) (bs : List Byte) (s : State) : (feedCrc seed bs s).opw = s.opw := rfl
@[simp] theorem feedCrc_sstep (seed : Byte) (bs : List Byte) (s : State) : (feedCrc seed bs s).sstep = s.sstep := rfl
@[simp] theorem feedCrc_reqPort (seed : Byte) (bs : List Byte) (s : State) : (feedCrc seed bs s).reqPort = s.reqPort := rfl
@[simp] theorem feedCrc_hostOps (seed : Byte) (bs : List Byte) (s : State) : (feedCrc seed bs s).hostOps = s.hostOps := rfl
@[simp] theorem feedCrc_answers (seed : Byte) (bs : List Byte) (s : State) : (feedCrc seed bs s).answers = s.answers := rfl
@[simp] theorem feedCrc_bus (seed : Byte) (bs : List Byte) (s : State) : (feedCrc seed bs s).bus = s.bus := rfl
@[simp] theorem feedCrc_draws (seed : Byte) (bs : List Byte) (s : State) : (feedCrc seed bs s).draws = s.draws := rfl

/-! `loadDecoded` -/

@[simp] theorem loadDecoded_a (s : State) : (loadDecoded s).a = s.a := rfl
@[simp] theorem loadDecoded_buf (s : State) : (loadDecoded s).buf = s.buf := rfl
@[simp] theorem loadDecoded_r (s : State) : (loadDecoded s).r = s.r := rfl
@[simp] theorem loadDecoded_temp (s : State) : (loadDecoded s).temp = tempOf Config.tempByte0IsMsb s.buf.b0 s.buf.b1 := rfl
@[simp] theorem loadDecoded_th (s : State) : (loadDecoded s).th = s.buf.b2 := rfl
@[simp] theorem loadDecoded_tl (s : State) : (loadDecoded s).tl = s.buf.b3 := rfl
@[simp] theorem loadDecoded_cfg (s : State) : (loadDecoded s).cfg = s.buf.b4 := rfl
@[simp] theorem loadDecoded_status (s : State) : (loadDecoded s).status = s.status := rfl
@[simp] theorem loadDecoded_info (s : State) : (loadDecoded s).info = s.info := rfl
@[simp] theorem loadDecoded_phase (s : State) : (loadDecoded s).phase = s.phase := rfl
@[simp] theorem loadDecoded_so (s : State) : (loadDecoded s).so = s.so := rfl
@[simp] theorem loadDecoded_spv (s : State) : (loadDecoded s).spv = true := rfl
@[simp] theorem loadDecoded_av (s : State) : (loadDecoded s).av = s.av := rfl
@[simp] theorem loadDecoded_busy (s : State) : (loadDecoded s).busy = s.busy := rfl
@[simp] theorem loadDecoded_crc (s : State) : (loadDecoded s).crc = s.crc := rfl
@[simp] theorem loadDecoded_terr (s : State) : (loadDecoded s).terr = s.terr := rfl
@[simp] theorem loadDecoded_curOp (s : State) : (loadDecoded s).curOp = s.curOp := rfl
@[simp] theorem loadDecoded_opa (s : State) : (loadDecoded s).opa = s.opa := rfl
@[simp] theorem loadDecoded_opw (s : State) : (loadDecoded s).opw = s.opw := rfl
@[simp] theorem loadDecoded_sstep (s : State) : (loadDecoded s).sstep = s.sstep := rfl
@[simp] theorem loadDecoded_reqPort (s : State) : (loadDecoded s).reqPort = s.reqPort := rfl
@[simp] theorem loadDecoded_hostOps (s : State) : (loadDecoded s).hostOps = s.hostOps := rfl
@[simp] theorem loadDecoded_answers (s : State) : (loadDecoded s).answers = s.answers := rfl
@[simp] theorem loadDecoded_bus (s : State) : (loadDecoded s).bus = s.bus := rfl
@[simp] theorem loadDecoded_draws (s : State) : (loadDecoded s).draws = s.draws := rfl

/-! `setR` -/

@[simp] theorem setR_a {w : Nat} (v : BitVec w) (s : State) : (setR v s).a = s.a := rfl
@[simp] theorem setR_buf {w : Nat} (v : BitVec w) (s : State) : (setR v s).buf = s.buf := rfl
@[simp] theorem setR_r {w : Nat} (v : BitVec w) (s : State) : (setR v s).r = v.setWidth 32 := rfl
@[simp] theorem setR_temp {w : Nat} (v : BitVec w) (s : State) : (setR v s).temp = s.temp := rfl
@[simp] theorem setR_th {w : Nat} (v : BitVec w) (s : State) : (setR v s).th = s.th := rfl
@[simp] theorem setR_tl {w : Nat} (v : BitVec w) (s : State) : (setR v s).tl = s.tl := rfl
@[simp] theorem setR_cfg {w : Nat} (v : BitVec w) (s : State) : (setR v s).cfg = s.cfg := rfl
@[simp] theorem setR_status {w : Nat} (v : BitVec w) (s : State) : (setR v s).status = s.status := rfl
@[simp] theorem setR_info {w : Nat} (v : BitVec w) (s : State) : (setR v s).info = s.info := rfl
@[simp] theorem setR_phase {w : Nat} (v : BitVec w) (s : State) : (setR v s).phase = s.phase := rfl
@[simp] theorem setR_so {w : Nat} (v : BitVec w) (s : State) : (setR v s).so = s.so := rfl
@[simp] theorem setR_spv {w : Nat} (v : BitVec w) (s : State) : (setR v s).spv = s.spv := rfl
@[simp] theorem setR_av {w : Nat} (v : BitVec w) (s : State) : (setR v s).av = s.av := rfl
@[simp] theorem setR_busy {w : Nat} (v : BitVec w) (s : State) : (setR v s).busy = s.busy := rfl
@[simp] theorem setR_crc {w : Nat} (v : BitVec w) (s : State) : (setR v s).crc = s.crc := rfl
@[simp] theorem setR_terr {w : Nat} (v : BitVec w) (s : State) : (setR v s).terr = s.terr := rfl
@[simp] theorem setR_curOp {w : Nat} (v : BitVec w) (s : State) : (setR v s).curOp = s.curOp := rfl
@[simp] theorem setR_opa {w : Nat} (v : BitVec w) (s : State) : (setR v s).opa = s.opa := rfl
@[simp] theorem setR_opw {w : Nat} (v : BitVec w) (s : State) : (setR v s).opw = s.opw := rfl
@[simp] theorem setR_sstep {w : Nat} (v : BitVec w) (s : State) : (setR v s).sstep = s.sstep := rfl
@[simp] theorem setR_reqPort {w : Nat} (v : BitVec w) (s : State) : (setR v s).reqPort = s.reqPort := rfl
@[simp] theorem setR_hostOps {w : Nat} (v : BitVec w) (s : State) : (setR v s).hostOps = s.hostOps := rfl
@[simp] theorem setR_answers {w : Nat} (v : BitVec w) (s : State) : (setR v s).answers = s.answers := rfl
@[simp] theorem setR_bus {w : Nat} (v : BitVec w) (s : State) : (setR v s).bus = s.bus := rfl
@[simp] theorem setR_draws {w : Nat} (v : BitVec w) (s : State) : (setR v s).draws = s.draws := rfl

/-! `takeIllegal` -/

@[simp] theorem takeIllegal_a (op : Byte) (s : State) : (takeIllegal op s).a = s.a := rfl
@[simp] theorem takeIllegal_buf (op : Byte) (s : State) : (takeIllegal op s).buf = s.buf := rfl
@[simp] theorem takeIllegal_r (op : Byte) (s : State) : (takeIllegal op s).r = s.r := rfl
@[simp] theorem takeIllegal_temp (op : Byte) (s : State) : (takeIllegal op s).temp = s.temp := rfl
@[simp] theorem takeIllegal_th (op : Byte) (s : State) : (takeIllegal op s).th = s.th := rfl
@[simp] theorem takeIllegal_tl (op : Byte) (s : State) : (takeIllegal op s).tl = s.tl := rfl
@[simp] theorem takeIllegal_cfg (op : Byte) (s : State) : (takeIllegal op s).cfg = s.cfg := rfl
@[simp] theorem takeIllegal_status (op : Byte) (s : State) : (takeIllegal op s).status = .illegalOperation := rfl
@[simp] theorem takeIllegal_info (op : Byte) (s : State) : (takeIllegal op s).info = op := rfl
@[simp] theorem takeIllegal_phase (op : Byte) (s : State) : (takeIllegal op s).phase = s.phase := rfl
@[simp] theorem takeIllegal_so (op : Byte) (s : State) : (takeIllegal op s).so = s.so := rfl
@[simp] theorem takeIllegal_spv (op : Byte) (s : State) : (takeIllegal op s).spv = s.spv := rfl
@[simp] theorem takeIllegal_av (op : Byte) (s : State) : (takeIllegal op s).av = s.av := rfl
@[simp] theorem takeIllegal_busy (op : Byte) (s : State) : (takeIllegal op s).busy = false := rfl
@[simp] theorem takeIllegal_crc (op : Byte) (s : State) : (takeIllegal op s).crc = s.crc := rfl
@[simp] theorem takeIllegal_terr (op : Byte) (s : State) : (takeIllegal op s).terr = s.terr := rfl
@[simp] theorem takeIllegal_curOp (op : Byte) (s : State) : (takeIllegal op s).curOp = s.curOp := rfl
@[simp] theorem takeIllegal_opa (op : Byte) (s : State) : (takeIllegal op s).opa = s.opa := rfl
@[simp] theorem takeIllegal_opw (op : Byte) (s : State) : (takeIllegal op s).opw = s.opw := rfl
@[simp] theorem takeIllegal_sstep (op : Byte) (s : State) : (takeIllegal op s).sstep = 0#4 := rfl
@[simp] theorem takeIllegal_reqPort (op : Byte) (s : State) : (takeIllegal op s).reqPort = s.reqPort := rfl
@[simp] theorem takeIllegal_hostOps (op : Byte) (s : State) : (takeIllegal op s).hostOps = s.hostOps := rfl
@[simp] theorem takeIllegal_answers (op : Byte) (s : State) : (takeIllegal op s).answers = s.answers := rfl
@[simp] theorem takeIllegal_bus (op : Byte) (s : State) : (takeIllegal op s).bus = s.bus := rfl
@[simp] theorem takeIllegal_draws (op : Byte) (s : State) : (takeIllegal op s).draws = s.draws := rfl

/-! `arrive` -/

@[simp] theorem arrive_a (ans : List Answer) (s : State) : (arrive ans s).a = s.a := rfl
@[simp] theorem arrive_buf (ans : List Answer) (s : State) : (arrive ans s).buf = s.buf := rfl
@[simp] theorem arrive_r (ans : List Answer) (s : State) : (arrive ans s).r = s.r := rfl
@[simp] theorem arrive_temp (ans : List Answer) (s : State) : (arrive ans s).temp = s.temp := rfl
@[simp] theorem arrive_th (ans : List Answer) (s : State) : (arrive ans s).th = s.th := rfl
@[simp] theorem arrive_tl (ans : List Answer) (s : State) : (arrive ans s).tl = s.tl := rfl
@[simp] theorem arrive_cfg (ans : List Answer) (s : State) : (arrive ans s).cfg = s.cfg := rfl
@[simp] theorem arrive_status (ans : List Answer) (s : State) : (arrive ans s).status = s.status := rfl
@[simp] theorem arrive_info (ans : List Answer) (s : State) : (arrive ans s).info = s.info := rfl
@[simp] theorem arrive_phase (ans : List Answer) (s : State) : (arrive ans s).phase = s.phase := rfl
@[simp] theorem arrive_so (ans : List Answer) (s : State) : (arrive ans s).so = s.so := rfl
@[simp] theorem arrive_spv (ans : List Answer) (s : State) : (arrive ans s).spv = s.spv := rfl
@[simp] theorem arrive_av (ans : List Answer) (s : State) : (arrive ans s).av = s.av := rfl
@[simp] theorem arrive_busy (ans : List Answer) (s : State) : (arrive ans s).busy = s.busy := rfl
@[simp] theorem arrive_crc (ans : List Answer) (s : State) : (arrive ans s).crc = s.crc := rfl
@[simp] theorem arrive_terr (ans : List Answer) (s : State) : (arrive ans s).terr = s.terr := rfl
@[simp] theorem arrive_curOp (ans : List Answer) (s : State) : (arrive ans s).curOp = s.curOp := rfl
@[simp] theorem arrive_opa (ans : List Answer) (s : State) : (arrive ans s).opa = s.opa := rfl
@[simp] theorem arrive_opw (ans : List Answer) (s : State) : (arrive ans s).opw = s.opw := rfl
@[simp] theorem arrive_sstep (ans : List Answer) (s : State) : (arrive ans s).sstep = s.sstep := rfl
@[simp] theorem arrive_reqPort (ans : List Answer) (s : State) : (arrive ans s).reqPort = s.reqPort := rfl
@[simp] theorem arrive_hostOps (ans : List Answer) (s : State) : (arrive ans s).hostOps = s.hostOps := rfl
@[simp] theorem arrive_answers (ans : List Answer) (s : State) : (arrive ans s).answers = s.answers ++ ans := rfl
@[simp] theorem arrive_bus (ans : List Answer) (s : State) : (arrive ans s).bus = s.bus := rfl
@[simp] theorem arrive_draws (ans : List Answer) (s : State) : (arrive ans s).draws = s.draws := rfl

/-! `present` -/

@[simp] theorem present_a (w : List Byte) (s : State) : (present w s).a = s.a := rfl
@[simp] theorem present_buf (w : List Byte) (s : State) : (present w s).buf = s.buf := rfl
@[simp] theorem present_r (w : List Byte) (s : State) : (present w s).r = s.r := rfl
@[simp] theorem present_temp (w : List Byte) (s : State) : (present w s).temp = s.temp := rfl
@[simp] theorem present_th (w : List Byte) (s : State) : (present w s).th = s.th := rfl
@[simp] theorem present_tl (w : List Byte) (s : State) : (present w s).tl = s.tl := rfl
@[simp] theorem present_cfg (w : List Byte) (s : State) : (present w s).cfg = s.cfg := rfl
@[simp] theorem present_status (w : List Byte) (s : State) : (present w s).status = s.status := rfl
@[simp] theorem present_info (w : List Byte) (s : State) : (present w s).info = s.info := rfl
@[simp] theorem present_phase (w : List Byte) (s : State) : (present w s).phase = s.phase := rfl
@[simp] theorem present_so (w : List Byte) (s : State) : (present w s).so = s.so := rfl
@[simp] theorem present_spv (w : List Byte) (s : State) : (present w s).spv = s.spv := rfl
@[simp] theorem present_av (w : List Byte) (s : State) : (present w s).av = s.av := rfl
@[simp] theorem present_busy (w : List Byte) (s : State) : (present w s).busy = s.busy := rfl
@[simp] theorem present_crc (w : List Byte) (s : State) : (present w s).crc = s.crc := rfl
@[simp] theorem present_terr (w : List Byte) (s : State) : (present w s).terr = s.terr := rfl
@[simp] theorem present_curOp (w : List Byte) (s : State) : (present w s).curOp = s.curOp := rfl
@[simp] theorem present_opa (w : List Byte) (s : State) : (present w s).opa = s.opa := rfl
@[simp] theorem present_opw (w : List Byte) (s : State) : (present w s).opw = s.opw := rfl
@[simp] theorem present_sstep (w : List Byte) (s : State) : (present w s).sstep = s.sstep := rfl
@[simp] theorem present_reqPort (w : List Byte) (s : State) : (present w s).reqPort = s.reqPort := rfl
@[simp] theorem present_hostOps (w : List Byte) (s : State) : (present w s).hostOps = s.hostOps ++ [w] := rfl
@[simp] theorem present_answers (w : List Byte) (s : State) : (present w s).answers = s.answers := rfl
@[simp] theorem present_bus (w : List Byte) (s : State) : (present w s).bus = s.bus := rfl
@[simp] theorem present_draws (w : List Byte) (s : State) : (present w s).draws = s.draws := rfl

end Sys2Proof.Machine
end

