-- ==== Sys2Proof/Laws/Sequencer.lean ====
section
/-! SUPPORT. What the sequencer's shared operations can do: one lemma per way a numbered step ends, and the cases of a bus
request. Provers cite these instead of unfolding. -/

namespace Sys2Proof.Machine

variable {α : Type} {f : MicroStep} {fs : List MicroStep} {n : Nat} {s t : State}

@[simp] theorem runSteps_nil : runSteps [] n s = endOp s := rfl

theorem runSteps_go (h : f s = .go t) :
    runSteps (f :: fs) n s = runSteps fs (n + 1) { t with sstep := BitVec.ofNat 4 (n + 1) } := by
  simp only [runSteps, h]

theorem runSteps_stop (h : f s = .stop t) : runSteps (f :: fs) n s = t := by
  simp only [runSteps, h]

theorem runSteps_wait (h : f s = .wait t) : runSteps (f :: fs) n s = t := by
  simp only [runSteps, h]

/-- A step that only writes registers never stops and never waits. -/
@[simp] theorem runSteps_regs (g : State → State) :
    runSteps (regs g :: fs) n s = runSteps fs (n + 1) { g s with sstep := BitVec.ofNat 4 (n + 1) } := rfl

/-- All a bus request can do: it waits, leaving only its request at the port, or it goes on with the first answer at hand,
which fits it. -/
theorem ask_cases (q : BusRequest) (view : Answer → Option α) (k : α → MicroStep) (s : State) :
    ask q view k s = .wait (offer q s) ∨
    ∃ ans rest v, s.answers = ans :: rest ∧ view ans = some v ∧ ask q view k s = k v (takeAnswer q ans rest s) := by
  unfold ask
  rcases h : s.answers with _ | ⟨ans, rest⟩
  · exact .inl rfl
  · rcases hv : view ans with _ | v
    · exact .inl (by simp [hv])
    · exact .inr ⟨ans, rest, v, rfl, hv, by simp [hv]⟩

theorem ask_none {q : BusRequest} {view : Answer → Option α} {k : α → MicroStep} (h : s.answers = []) :
    ask q view k s = .wait (offer q s) := by
  simp only [ask, h]

theorem ask_fits {q : BusRequest} {view : Answer → Option α} {k : α → MicroStep} {ans : Answer} {rest : List Answer} {v : α}
    (h : s.answers = ans :: rest) (hv : view ans = some v) :
    ask q view k s = k v (takeAnswer q ans rest s) := by
  simp only [ask, h, hv]

theorem ask_unfit {q : BusRequest} {view : Answer → Option α} {k : α → MicroStep} {ans : Answer} {rest : List Answer}
    (h : s.answers = ans :: rest) (hv : view ans = none) :
    ask q view k s = .wait (offer q s) := by
  simp only [ask, h, hv]

/-- A request that asks for an acknowledgement goes on after `OK`. -/
theorem ackStep_ok {q : BusRequest} {before after onErr : State → State} {rest : List Answer} (h : s.answers = .ok :: rest) :
    ackStep q before after onErr s = .go (after (before (takeAnswer q .ok rest s))) := by
  unfold ackStep
  rw [ask_fits h (v := none) rfl]

/-- It raises `TRANSPORT` after `ERR(e)`. -/
theorem ackStep_err {q : BusRequest} {before after onErr : State → State} {e : TErr} {rest : List Answer}
    (h : s.answers = .err e :: rest) :
    ackStep q before after onErr s = .stop (transportError e (onErr (before (takeAnswer q (.err e) rest s)))) := by
  unfold ackStep
  rw [ask_fits h (v := some e) rfl]

/-- A read goes on after the right number of bytes. -/
theorem busReadStep_ok {bs : List Byte} {rest : List Answer} (h : s.answers = .bytes bs :: rest) (hn : bs.length = n) :
    busReadStep n s =
      .go { takeAnswer (.read n) (.bytes bs) rest s with buf := fillImage bs s.buf } := by
  unfold busReadStep
  rw [ask_fits h (v := .ok bs) (by simp [bytesOf, hn])]
  rfl

/-- The delay goes on after `OK`. -/
theorem delayStep_ok {rest : List Answer} (h : s.answers = .ok :: rest) :
    delayStep n s = .go (takeAnswer (.delay n) .ok rest s) := by
  unfold delayStep
  rw [ask_fits h (v := ()) rfl]

theorem phaseCheck_pass {op : Byte} {need : Phase} (h : s.phase = need) : phaseCheck op need s = .go s := by
  simp [phaseCheck, h]

theorem phaseCheck_fail {op : Byte} {need : Phase} (h : s.phase ≠ need) :
    phaseCheck op need s = .stop (raise .protocolViolation op (setPhase .none s)) := by
  simp [phaseCheck, h]

/-! ## Everything each shared step can do, said once -/

theorem runSteps_cons : runSteps (f :: fs) n s =
    match f s with
    | .go t => runSteps fs (n + 1) { t with sstep := BitVec.ofNat 4 (n + 1) }
    | .stop t => t
    | .wait t => t := rfl

/-- A reset or a write goes on after `OK`, raises `TRANSPORT` after `ERR(e)`, or waits (R41, R42). -/
theorem ackStep_cases (q : BusRequest) (before after onErr : State → State) (s : State) :
    (∃ rest, s.answers = .ok :: rest ∧
      ackStep q before after onErr s = .go (after (before (takeAnswer q .ok rest s)))) ∨
    (∃ e rest, s.answers = .err e :: rest ∧
      ackStep q before after onErr s = .stop (transportError e (onErr (before (takeAnswer q (.err e) rest s))))) ∨
    ackStep q before after onErr s = .wait (offer q s) := by
  unfold ackStep ask
  rcases h : s.answers with _ | ⟨x, xs⟩
  · simp
  · cases x <;> simp [ackOf]

/-- A read goes on after n bytes, raises `TRANSPORT` after `ERR(e)` with the buffer's bytes n and up kept, or waits (R43). -/
theorem busReadStep_cases (n : Nat) (s : State) :
    (∃ bs rest, s.answers = .bytes bs :: rest ∧ bs.length = n ∧
      busReadStep n s = .go { takeAnswer (.read n) (.bytes bs) rest s with buf := fillImage bs s.buf }) ∨
    (∃ e rest free, s.answers = .err e :: rest ∧ free.length = n ∧
      busReadStep n s =
        .stop (transportError e { takeAnswer (.read n) (.err e) rest s with buf := fillImage free s.buf })) ∨
    busReadStep n s = .wait (offer (.read n) s) := by
  unfold busReadStep ask
  rcases h : s.answers with _ | ⟨x, xs⟩
  · simp
  · cases x <;> simp [bytesOf]
    · exact ⟨freeBytes s.draws n, by simp [freeBytes], by simp [drawsOf]⟩
    · rename_i bs
      by_cases hl : bs.length = n <;> simp [hl]

/-- The delay goes on after `OK`, or waits (R45). -/
theorem delayStep_cases (us : Nat) (s : State) :
    (∃ rest, s.answers = .ok :: rest ∧ delayStep us s = .go (takeAnswer (.delay us) .ok rest s)) ∨
    delayStep us s = .wait (offer (.delay us) s) := by
  unfold delayStep ask
  rcases h : s.answers with _ | ⟨x, xs⟩
  · simp
  · cases x <;> simp [delayOf]

/-- Step s3 of `SEARCH` goes on with an item, raises `TRANSPORT` on a failed one, ends on `END`, or waits (R44, R130). -/
theorem searchItemStep_cases (first : Bool) (s : State) :
    (∃ a rest, s.answers = .item a :: rest ∧
      searchItemStep first s = .go { takeAnswer (.searchNext first) (.item a) rest s with so := true, a := a }) ∨
    (∃ e rest, s.answers = .itemErr e :: rest ∧
      searchItemStep first s =
        .stop (transportError e { takeAnswer (.searchNext first) (.itemErr e) rest s with so := true })) ∨
    (∃ rest, s.answers = .noMore :: rest ∧
      searchItemStep first s =
        .stop (endOp (report .searchEnd { takeAnswer (.searchNext first) .noMore rest s with so := false }))) ∨
    searchItemStep first s = .wait (offer (.searchNext first) s) := by
  unfold searchItemStep ask
  rcases h : s.answers with _ | ⟨x, xs⟩
  · simp
  · cases x <;> simp [itemOf]

/-- The CRC check of the buffer passes with `CRC` = 0, or raises `CRC_MISMATCH` with the checksum (R89). -/
theorem crcCheckStep_cases (n : Nat) (s : State) :
    (crc8 0x00#8 (bufFront n s.buf) = 0x00#8 ∧ crcCheckStep n s = .go { s with crc := 0x00#8 }) ∨
    (crc8 0x00#8 (bufFront n s.buf) ≠ 0x00#8 ∧
      crcCheckStep n s = .stop (raise .crcMismatch (crc8 0x00#8 (bufFront n s.buf))
        { s with crc := crc8 0x00#8 (bufFront n s.buf) })) := by
  by_cases h : crc8 0x00#8 (bufFront n s.buf) = 0x00#8 <;> simp_all [crcCheckStep, crcVerdict, feedCrc, Config.crcSeed]

/-- The configuration check passes and changes nothing, or raises `CONFIG_REGISTER` with byte 4 (R104 s2). -/
theorem cfgCheckStep_cases (s : State) :
    (cfgValid s.buf.b4 = true ∧ cfgCheckStep s = .go s) ∨
    (cfgValid s.buf.b4 = false ∧ cfgCheckStep s = .stop (raise .configRegister s.buf.b4 s)) := by
  by_cases h : cfgValid s.buf.b4 = true <;> simp_all [cfgCheckStep]

/-- The phase check passes and changes nothing, or raises `PROTOCOL_VIOLATION` with `PHASE` = `NONE` (R147). -/
theorem phaseCheck_cases (op : Byte) (need : Phase) (s : State) :
    (s.phase = need ∧ phaseCheck op need s = .go s) ∨
    (s.phase ≠ need ∧ phaseCheck op need s = .stop (raise .protocolViolation op (setPhase .none s))) := by
  by_cases h : s.phase = need <;> simp_all [phaseCheck]

/-- Step s2 of `SEARCH` goes on, or ends with `SEARCH_END` where no enumeration is open (R130). -/
theorem searchOpenCheck_cases (first : Bool) (s : State) :
    ((first = true ∨ s.so = true) ∧ searchOpenCheck first s = .go s) ∨
    (first = false ∧ s.so = false ∧ searchOpenCheck first s = .stop (endOp (report .searchEnd s))) := by
  unfold searchOpenCheck
  cases first <;> cases h : s.so <;> simp

/-- The family check passes, or raises `FAMILY_CODE` with the family code found (R130 s4). -/
theorem searchFamilyCheck_cases (s : State) :
    (familyOf s.a = 0x28#8 ∧ searchFamilyCheck s = .go s) ∨
    (familyOf s.a ≠ 0x28#8 ∧ searchFamilyCheck s = .stop (raise .familyCode (familyOf s.a) s)) := by
  by_cases h : familyOf s.a = 0x28#8 <;> simp_all [searchFamilyCheck, familyOk, Config.family]

/-- The nine-step read of the scratchpad accepts exactly four configuration bytes (R63). -/
theorem cfgValid_four {b : Byte} (h : cfgValid b = true) : b = 0x1F#8 ∨ b = 0x3F#8 ∨ b = 0x5F#8 ∨ b = 0x7F#8 := by
  revert b
  decide +kernel

end Sys2Proof.Machine
end

