-- ==== Sys2Proof/Laws/Payload.lean ====
section
/-! SUPPORT. Replacing the payloads of transport errors (`State.mapPayload`): what it leaves in each field, and that the
sequencer and the exchange of a request commute with it. -/

namespace Sys2Proof.Machine

variable (f : TErr → TErr) (s : State)

@[simp] theorem mapPayload_a : (s.mapPayload f).a = s.a := rfl
@[simp] theorem mapPayload_buf : (s.mapPayload f).buf = s.buf := rfl
@[simp] theorem mapPayload_r : (s.mapPayload f).r = s.r := rfl
@[simp] theorem mapPayload_temp : (s.mapPayload f).temp = s.temp := rfl
@[simp] theorem mapPayload_th : (s.mapPayload f).th = s.th := rfl
@[simp] theorem mapPayload_tl : (s.mapPayload f).tl = s.tl := rfl
@[simp] theorem mapPayload_cfg : (s.mapPayload f).cfg = s.cfg := rfl
@[simp] theorem mapPayload_status : (s.mapPayload f).status = s.status := rfl
@[simp] theorem mapPayload_info : (s.mapPayload f).info = s.info := rfl
@[simp] theorem mapPayload_phase : (s.mapPayload f).phase = s.phase := rfl
@[simp] theorem mapPayload_so : (s.mapPayload f).so = s.so := rfl
@[simp] theorem mapPayload_spv : (s.mapPayload f).spv = s.spv := rfl
@[simp] theorem mapPayload_av : (s.mapPayload f).av = s.av := rfl
@[simp] theorem mapPayload_busy : (s.mapPayload f).busy = s.busy := rfl
@[simp] theorem mapPayload_crc : (s.mapPayload f).crc = s.crc := rfl
@[simp] theorem mapPayload_terr : (s.mapPayload f).terr = f s.terr := rfl
@[simp] theorem mapPayload_curOp : (s.mapPayload f).curOp = s.curOp := rfl
@[simp] theorem mapPayload_opa : (s.mapPayload f).opa = s.opa := rfl
@[simp] theorem mapPayload_opw : (s.mapPayload f).opw = s.opw := rfl
@[simp] theorem mapPayload_sstep : (s.mapPayload f).sstep = s.sstep := rfl
@[simp] theorem mapPayload_reqPort : (s.mapPayload f).reqPort = s.reqPort := rfl
@[simp] theorem mapPayload_hostOps : (s.mapPayload f).hostOps = s.hostOps := rfl
@[simp] theorem mapPayload_answers : (s.mapPayload f).answers = s.answers.map (Answer.mapPayload f) := rfl
@[simp] theorem mapPayload_bus : (s.mapPayload f).bus = s.bus.map (BusEvent.mapPayload f) := rfl
@[simp] theorem mapPayload_draws : (s.mapPayload f).draws = s.draws := rfl

/-- The end of a step, with every payload replaced. -/
def MicroResult.mapPayload (f : TErr → TErr) : MicroResult → MicroResult
  | .go s => .go (s.mapPayload f)
  | .stop s => .stop (s.mapPayload f)
  | .wait s => .wait (s.mapPayload f)

/-- A step does the same to a state with its payloads replaced. -/
def PassesPayloadOn (f : TErr → TErr) (m : MicroStep) : Prop := ∀ s, m (s.mapPayload f) = (m s).mapPayload f

/-- An operation passes payloads on where each of its steps does. -/
theorem runSteps_mapPayload {fs : List MicroStep} (h : ∀ m ∈ fs, PassesPayloadOn f m) (n : Nat) :
    runSteps fs n (s.mapPayload f) = (runSteps fs n s).mapPayload f := by
  induction fs generalizing n s with
  | nil => rfl
  | cons m ms ih =>
    simp only [runSteps, h m (by simp) s]
    cases m s with
    | go t => exact ih { t with sstep := BitVec.ofNat 4 (n + 1) } (fun x hx => h x (by simp [hx])) (n + 1)
    | stop t => rfl
    | wait t => rfl

/-- How many values an exchange draws, and what of it reaches the wire, do not depend on the payload. -/
theorem takeAnswer_mapPayload (q : BusRequest) (ans : Answer) (rest : List Answer) :
    takeAnswer q (ans.mapPayload f) (rest.map (Answer.mapPayload f)) (s.mapPayload f) =
      (takeAnswer q ans rest s).mapPayload f := by
  cases q <;> cases ans <;>
    simp [takeAnswer, State.mapPayload, Answer.mapPayload, BusEvent.mapPayload, wireOf, drawsOf]

/-- A request passes payloads on where what is done with its answer does. -/
theorem ask_mapPayload {α : Type} {q : BusRequest} {view : Answer → Option α} {k : α → MicroStep}
    (h : ∀ ans s, (view (ans.mapPayload f)).map (fun v => k v (s.mapPayload f)) =
      (view ans).map (fun v => (k v s).mapPayload f)) : PassesPayloadOn f (ask q view k) := by
  intro s
  rcases hs : s.answers with _ | ⟨a, rest⟩
  · simp only [ask, hs, mapPayload_answers, List.map_nil]
    rfl
  · have := h a (takeAnswer q a rest s)
    simp only [ask, hs, mapPayload_answers, List.map_cons, takeAnswer_mapPayload]
    cases hv : view (a.mapPayload f) <;> cases hw : view a <;> simp_all
    rfl

/-- An acknowledged request passes payloads on where its writes do. -/
theorem ackStep_mapPayload {q : BusRequest} {before after onErr : State → State}
    (hb : ∀ s, before (s.mapPayload f) = (before s).mapPayload f) (ha : ∀ s, after (s.mapPayload f) = (after s).mapPayload f)
    (he : ∀ s, onErr (s.mapPayload f) = (onErr s).mapPayload f) : PassesPayloadOn f (ackStep q before after onErr) := by
  refine ask_mapPayload f fun ans s => ?_
  cases ans <;> simp [ackOf, Answer.mapPayload, MicroResult.mapPayload, hb s, ha (before s), he (before s)]
  rfl

end Sys2Proof.Machine
end

