-- ==== Sys2Proof/Laws/PerInstr.lean ====
section
/-! SUPPORT. Per-instruction laws. Family `WordLength`: the operation word of a well-formed operation has the length that its
byte 0 and its length byte fix (30_encoding.md R65, R68). -/

namespace Sys2Proof.Laws.WordLength

/-- The word of a well-formed operation has the length its format fixes. -/
def Statement (i : Instr) : Prop :=
  i.wf = true →
    (encode i).length = wordLength ((encode i).getD 0 0#8) ((encode i).getD 1 0#8) ((encode i).getD 2 0#8)

theorem busReset : Statement .busReset := fun _ => by decide

theorem crcCalc (data : List Byte) : Statement (.crcCalc data) := fun h => by
  simp only [encode, opcode, operandBytes, List.getD_cons_zero, List.getD_cons_succ, wordLength, List.length_cons]
  rw [length_ofNat h]
  simp only [true_or, if_true]
  omega

theorem crcCalcInit (seed : Byte) (data : List Byte) : Statement (.crcCalcInit seed data) := fun h => by
  simp only [encode, opcode, operandBytes, List.getD_cons_zero, List.getD_cons_succ, wordLength, List.length_cons]
  rw [length_ofNat h]
  simp only [show ¬(0x02#8 = 0x01#8 ∨ 0x02#8 = 0x03#8) by decide, if_true, if_false]
  omega

theorem crcCheck (data : List Byte) : Statement (.crcCheck data) := fun h => by
  simp only [encode, opcode, operandBytes, List.getD_cons_zero, List.getD_cons_succ, wordLength, List.length_cons]
  rw [length_ofNat h]
  simp only [or_true, if_true]
  omega

theorem familyCode (a : Addr) : Statement (.familyCode a) := fun _ => rfl
theorem cfgDecode (b : Byte) : Statement (.cfgDecode b) := fun _ => rfl
theorem cfgEncode (res : Resolution) : Statement (.cfgEncode res) := fun _ => rfl
theorem spDecode (img : Image9) : Statement (.spDecode img) := fun _ => rfl
theorem spEncode (th tl : Byte) (res : Resolution) : Statement (.spEncode th tl res) := fun _ => rfl
theorem convTime (res : Resolution) : Statement (.convTime res) := fun _ => rfl
theorem temperature (a : Addr) : Statement (.temperature a) := fun _ => rfl
theorem readAddress : Statement .readAddress := fun _ => rfl
theorem matchAddress (a : Addr) : Statement (.matchAddress a) := fun _ => rfl
theorem skipAddress : Statement .skipAddress := fun _ => rfl
theorem searchAlarm : Statement .searchAlarm := fun _ => rfl
theorem search (first : Bool) : Statement (.search first) := fun _ => rfl
theorem readScratchpad : Statement .readScratchpad := fun _ => rfl
theorem writeScratchpad (th tl : Byte) (res : Resolution) : Statement (.writeScratchpad th tl res) := fun _ => rfl
theorem convertTemperature : Statement .convertTemperature := fun _ => rfl
theorem loadScratchpad : Statement .loadScratchpad := fun _ => rfl
theorem saveScratchpad : Statement .saveScratchpad := fun _ => rfl
theorem readPowerSupply : Statement .readPowerSupply := fun _ => rfl

end Sys2Proof.Laws.WordLength
end

