-- ==== Sys2Proof/Laws/Programs.lean ====
section
/-! SUPPORT. One operation of a host program, given what the block answers to it. -/

namespace Sys2Proof.Machine

variable {s t : State} {first : Bool} {fuel : Nat}

/-- The enumeration stops where the block waits or reports its end. -/
theorem searchLoop_stops (h : exec (.search first) s = .next t) (ht : t.busy = true ∨ t.status = .searchEnd) :
    searchLoop (fuel + 1) first s = ([], .next t) := by
  simp [searchLoop, h, ht]

/-- The enumeration goes on after every other status. -/
theorem searchLoop_goes_on (h : exec (.search first) s = .next t) (hb : t.busy = false) (ht : t.status ≠ .searchEnd) :
    searchLoop (fuel + 1) first s = (searchResult t ++ (searchLoop fuel false t).1, (searchLoop fuel false t).2) := by
  simp [searchLoop, h, hb, ht]

/-- A program goes on after an operation that ended with `OK`. -/
theorem runProgram_goes_on {i : Instr} {is : List Instr} (h : exec i s = .next t) (hb : t.busy = false)
    (ht : t.status = .ok) : runProgram (i :: is) s = runProgram is t := by
  simp [runProgram, h, hb, ht]

/-- A program stops at an operation that waits or ended without `OK`. -/
theorem runProgram_stops {i : Instr} {is : List Instr} (h : exec i s = .next t) (ht : t.busy = true ∨ t.status ≠ .ok) :
    runProgram (i :: is) s = .next t := by
  rcases ht with ht | ht <;> simp [runProgram, h, ht]

end Sys2Proof.Machine
end

