-- ==== Sys2Proof/Tests/Slice0.lean ====
section
/-! SUPPORT. The model's own tests. Expected results are the spec's test vectors (95_test_vectors.md, V1 to V155, P1 to P10) or
words written out from 30_encoding.md R65, R66. Then one witness for every statement with hypotheses. -/

namespace Sys2Proof.Tests

set_option Elab.async false

open Sys2Proof Sys2Proof.Machine

/-! ## Small states -/

/-- The state an outcome goes on with, the reset state where it stops. -/
def after (o : Host.Outcome State Fault Refusal) : State :=
  match o with
  | .next t => t
  | .fault _ => State.reset
  | .refused _ => State.reset

/-- The reset state in a phase, with answers at hand. -/
def at_ (p : Phase) (ans : List Answer) : State := { State.reset with phase := p, answers := ans }

/-- V50: an uncorrupted address image. -/
def img50 : List Byte := [0x28#8, 0x01#8, 0x02#8, 0x03#8, 0x04#8, 0x05#8, 0x06#8, 0x9E#8]

/-- V50 as a number. -/
def addr50 : Addr := 0x9E06050403020128#64

/-- V62: an uncorrupted scratchpad image, 25.0625 degrees. -/
def img62 : List Byte := [0x01#8, 0x91#8, 0x4B#8, 0x46#8, 0x7F#8, 0xFF#8, 0x0C#8, 0x10#8, 0xDA#8]

/-- V111: V62 with bit 0 of byte 1 flipped. -/
def img111 : List Byte := [0x01#8, 0x90#8, 0x4B#8, 0x46#8, 0x7F#8, 0xFF#8, 0x0C#8, 0x10#8, 0xDA#8]

/-- V78: a correct CRC byte over a malformed configuration byte. -/
def img78 : List Byte := [0x01#8, 0x91#8, 0x4B#8, 0x46#8, 0x00#8, 0xFF#8, 0x0C#8, 0x10#8, 0xE8#8]

/-- The answers of a `TEMPERATURE` whose requests all succeed. -/
def tempAnswers (bs : List Byte) : List Answer := [.ok, .ok, .ok, .ok, .ok, .ok, .ok, .bytes bs]

/-! ## WellFormed: an ill-formed term for each check -/

theorem test_wf_crcCalc_long : (Instr.crcCalc (List.replicate 256 0#8)).wf = false := by decide +kernel
theorem test_wf_crcCalcInit_long : (Instr.crcCalcInit 0#8 (List.replicate 256 0#8)).wf = false := by decide +kernel
theorem test_wf_crcCheck_long : (Instr.crcCheck (List.replicate 256 0#8)).wf = false := by decide +kernel
theorem test_wf_crcCalc_longest : (Instr.crcCalc (List.replicate 255 0#8)).wf = true := by decide +kernel

/-! ## Decoding: one word per constructor, written out from R65 and R66 -/

theorem test_decode_busReset : decode [0b0000_0000#8] = .ok .busReset := by decide
theorem test_decode_crcCalc : decode [0b0000_0001#8, 0x02#8, 0x63#8, 0x01#8] = .ok (.crcCalc [0x63#8, 0x01#8]) := by decide
theorem test_decode_crcCalcInit :
    decode [0b0000_0010#8, 0x87#8, 0x01#8, 0x4B#8] = .ok (.crcCalcInit 0x87#8 [0x4B#8]) := by decide
theorem test_decode_crcCheck : decode [0b0000_0011#8, 0x00#8] = .ok (.crcCheck []) := by decide
theorem test_decode_familyCode :
    decode [0b0000_0100#8, 0x28#8, 0x01#8, 0x02#8, 0x03#8, 0x04#8, 0x05#8, 0x06#8, 0x9E#8] = .ok (.familyCode addr50) := by
  decide
theorem test_decode_cfgDecode : decode [0b0000_0101#8, 0x9F#8] = .ok (.cfgDecode 0x9F#8) := by decide
theorem test_decode_cfgEncode : decode [0b0000_0110#8, 0b0000_0001#8] = .ok (.cfgEncode .bits10) := by decide
theorem test_decode_spDecode :
    decode [0b0000_0111#8, 0x01#8, 0x91#8, 0x4B#8, 0x46#8, 0x7F#8, 0xFF#8, 0x0C#8, 0x10#8, 0xDA#8] =
      .ok (.spDecode ⟨0x01#8, 0x91#8, 0x4B#8, 0x46#8, 0x7F#8, 0xFF#8, 0x0C#8, 0x10#8, 0xDA#8⟩) := by decide
theorem test_decode_spEncode :
    decode [0b0000_1000#8, 0xF6#8, 0xC9#8, 0b0000_0010#8] = .ok (.spEncode 0xF6#8 0xC9#8 .bits11) := by decide
theorem test_decode_convTime : decode [0b0000_1001#8, 0b0000_0011#8] = .ok (.convTime .bits12) := by decide
theorem test_decode_temperature :
    decode [0b0000_1010#8, 0x28#8, 0x01#8, 0x02#8, 0x03#8, 0x04#8, 0x05#8, 0x06#8, 0x9E#8] = .ok (.temperature addr50) := by
  decide
theorem test_decode_readAddress : decode [0b0011_0011#8] = .ok .readAddress := by decide
theorem test_decode_matchAddress :
    decode [0b0101_0101#8, 0x28#8, 0x01#8, 0x02#8, 0x03#8, 0x04#8, 0x05#8, 0x06#8, 0x9E#8] = .ok (.matchAddress addr50) := by
  decide
theorem test_decode_skipAddress : decode [0b1100_1100#8] = .ok .skipAddress := by decide
theorem test_decode_searchAlarm : decode [0b1110_1100#8] = .ok .searchAlarm := by decide
theorem test_decode_search_first : decode [0b1111_0000#8, 0b0000_0001#8] = .ok (.search true) := by decide
theorem test_decode_search_next : decode [0b1111_0000#8, 0b0000_0000#8] = .ok (.search false) := by decide
theorem test_decode_readScratchpad : decode [0b1011_1110#8] = .ok .readScratchpad := by decide
theorem test_decode_writeScratchpad :
    decode [0b0100_1110#8, 0x4B#8, 0x46#8, 0b0000_0000#8] = .ok (.writeScratchpad 0x4B#8 0x46#8 .bits9) := by decide
theorem test_decode_convertTemperature : decode [0b0100_0100#8] = .ok .convertTemperature := by decide
theorem test_decode_loadScratchpad : decode [0b1011_1000#8] = .ok .loadScratchpad := by decide
theorem test_decode_saveScratchpad : decode [0b0100_1000#8] = .ok .saveScratchpad := by decide
theorem test_decode_readPowerSupply : decode [0b1011_0100#8] = .ok .readPowerSupply := by decide

/-- V150 to V152: undefined codes and the neighbours of defined ones. -/
theorem test_decode_undefined_codes :
    [0x0B#8, 0xFF#8, 0x32#8, 0x34#8, 0x54#8, 0x56#8, 0xBF#8, 0xF1#8].all (fun op => decode [op] = .illegal op) = true := by
  decide

/-- V121, V135, V153 to V155: reserved operand bits. -/
theorem test_decode_reserved_bits :
    decode [0x4E#8, 0x4B#8, 0x46#8, 0x83#8] = .illegal 0x4E#8 ∧ decode [0xF0#8, 0x02#8] = .illegal 0xF0#8 ∧
    decode [0x06#8, 0x04#8] = .illegal 0x06#8 ∧ decode [0x09#8, 0xFF#8] = .illegal 0x09#8 ∧
    decode [0x08#8, 0x4B#8, 0x46#8, 0x04#8] = .illegal 0x08#8 := by decide

theorem test_decode_wrong_length :
    decode [] = .malformed ∧ decode [0x05#8] = .malformed ∧ decode [0x00#8, 0x00#8] = .malformed ∧
    decode [0x01#8, 0x02#8, 0x63#8] = .malformed := by decide

/-- The opcode table's numbering: byte 0 is bits 7..0 and the operand bytes above are 0. -/
theorem test_decodeTableWord :
    decodeTableWord 8 0x33 = some .readAddress ∧ decodeTableWord 8 0x02 = some (.crcCalcInit 0#8 []) ∧
    decodeTableWord 8 0x4E = some (.writeScratchpad 0#8 0#8 .bits9) ∧ decodeTableWord 8 0x0B = none ∧
    decodeTableWord 32 0x02C9F64E = some (.writeScratchpad 0xF6#8 0xC9#8 .bits11) := by decide

/-- A word placed at the port of the block is the next thing it runs: `READ_SCRATCHPAD` with no session (P4). -/
theorem test_withFetchWord_runs :
    (after (step (State.reset.withFetchWord 8 0xBE))).status = .protocolViolation ∧
    (after (step (State.reset.withFetchWord 8 0xBE))).info = 0xBE#8 := by decide

/-! ## CRC8 unit -/

/-- V1 to V3: the document's regression vectors. -/
theorem test_crc_regression :
    crc8 0#8 [99#8, 1#8, 75#8, 70#8, 127#8, 255#8, 13#8, 16#8] = 21#8 ∧
    crc8 0#8 [97#8, 1#8, 75#8, 70#8, 127#8, 255#8, 15#8, 16#8] = 2#8 ∧
    crc8 0#8 [95#8, 1#8, 75#8, 70#8, 127#8, 255#8, 1#8, 16#8] = 155#8 := by decide +kernel

/-- Section 2.1: the bit-level trace of a byte step. -/
theorem test_byteStep_trace :
    [1, 2, 3, 4, 5, 6, 7, 8].map (fun n => crcShifts n 0x28#8) =
      [0x14#8, 0x0A#8, 0x05#8, 0x8E#8, 0x47#8, 0xAF#8, 0xDB#8, 0xE1#8] := by decide

/-- V39. -/
theorem test_crcCalc_check_value :
    (after (exec (.crcCalc [0x31#8, 0x32#8, 0x33#8, 0x34#8, 0x35#8, 0x36#8, 0x37#8, 0x38#8, 0x39#8]) State.reset)).r = 0xA1#32 := by
  decide +kernel

/-- V42, V40. -/
theorem test_crcCalcInit_seed :
    (after (exec (.crcCalcInit 0x87#8 [1#8, 75#8, 70#8, 127#8, 255#8, 13#8, 16#8]) State.reset)).r = 0x15#32 ∧
    (after (exec (.crcCalcInit 0xFF#8 []) State.reset)).r = 0xFF#32 := by decide +kernel

/-- V46: the CRC byte off by one bit; `R` and `INFO` both have the checksum. -/
theorem test_crcCheck_mismatch :
    let t := after (exec (.crcCheck [99#8, 1#8, 75#8, 70#8, 127#8, 255#8, 13#8, 16#8, 20#8]) State.reset)
    t.status = .crcMismatch ∧ t.info = 0x5E#8 ∧ t.r = 0x5E#32 ∧ t.busy = false := by decide +kernel

/-- V45. -/
theorem test_crcCheck_ok :
    (after (exec (.crcCheck [99#8, 1#8, 75#8, 70#8, 127#8, 255#8, 13#8, 16#8, 21#8]) State.reset)).status = .ok := by
  decide +kernel

/-! ## Address unit and scratchpad decoder -/

/-- V56: no comparison with `0x28`. -/
theorem test_familyCode :
    (after (exec (.familyCode 0x7B06050403020110#64) State.reset)).r = 0x10#32 := by decide

/-- V83, V84. -/
theorem test_cfgDecode :
    (after (exec (.cfgDecode 0x5F#8) State.reset)).r = 2#32 ∧
    (after (exec (.cfgDecode 0x9F#8) State.reset)).info = 0x9F#8 := by decide

/-- V85. -/
theorem test_cfgEncode : (after (exec (.cfgEncode .bits10) State.reset)).r = 0x3F#32 := by decide

/-- V77: no check that `TH` >= `TL`; V81: a malformed byte 4. -/
theorem test_spDecode :
    (let t := after (exec (.spDecode ⟨0x01#8, 0x91#8, 0x80#8, 0x7F#8, 0x7F#8, 0x00#8, 0x00#8, 0x00#8, 0xC8#8⟩) State.reset)
     t.temp = 0x0191#16 ∧ t.th = 0x80#8 ∧ t.tl = 0x7F#8 ∧ t.cfg = 0x7F#8 ∧ t.spv = true) ∧
    (let t := after (exec (.spDecode ⟨0x01#8, 0x91#8, 0x4B#8, 0x46#8, 0x7E#8, 0xFF#8, 0x0C#8, 0x10#8, 0x55#8⟩) State.reset)
     t.status = .configRegister ∧ t.info = 0x7E#8 ∧ t.spv = false) := by decide

/-- V87. -/
theorem test_spEncode : (after (exec (.spEncode 0xF6#8 0xC9#8 .bits11) State.reset)).r = 0x005FC9F6#32 := by decide

/-- V89. -/
theorem test_convTime : (after (exec (.convTime .bits9) State.reset)).r = 93750#32 := by decide

/-- V17, V19, V70: raw temperatures, and P8 under the other byte order. -/
theorem test_temperature_pairs :
    (tempOf true 0xFF#8 0x5E#8).toInt = -162 ∧ (tempOf true 0xFC#8 0x90#8).toInt = -880 ∧
    (tempOf true 0x80#8 0x00#8).toInt = -32768 ∧ tempOf false 0x63#8 0x01#8 = 0x0163#16 := by decide

/-- V12, V17, V70, V73: the binary32 images. -/
theorem test_f32_images :
    f32Of 0x0191#16 = 0x41C88000#32 ∧ f32Of 0xFF5E#16 = 0xC1220000#32 ∧ f32Of 0x8000#16 = 0xC5000000#32 ∧
    f32Of 0xFFFF#16 = 0xBD800000#32 := by decide

/-! ## Bus reset, selection and memory commands, composites -/

/-- V90. -/
theorem test_busReset : (after (exec .busReset (at_ .none [.ok]))).phase = .selection := by decide

/-- V93, V94. -/
theorem test_readAddress :
    (let t := after (exec .readAddress (at_ .selection [.ok, .bytes img50]))
     t.a = addr50 ∧ t.av = true ∧ t.crc = 0#8 ∧ t.phase = .none ∧ t.status = .ok) ∧
    (let t := after (exec .readAddress (at_ .selection
        [.ok, .bytes [0x28#8, 0x01#8, 0x02#8, 0x03#8, 0x04#8, 0x05#8, 0x07#8, 0x9E#8]]))
     t.status = .crcMismatch ∧ t.info = 0xC4#8 ∧ t.av = false) := by decide +kernel

/-- V101: the frame on the wire. -/
theorem test_matchAddress :
    (after (exec (.matchAddress addr50) (at_ .selection [.ok]))).bus =
      [⟨.write (0x55#8 :: img50), .ok, 0x55#8 :: img50⟩] := by decide

/-- V106: a second selection is refused. -/
theorem test_skipAddress_twice :
    (after (exec .skipAddress (at_ .memory [.ok]))).status = .protocolViolation := by decide

/-- V107. -/
theorem test_searchAlarm : (after (exec .searchAlarm (at_ .selection []))).status = .unimplemented := by decide

/-- V110, V116: the CRC error comes before the configuration error. -/
theorem test_readScratchpad :
    (let t := after (exec .readScratchpad (at_ .memory [.ok, .bytes img62]))
     t.temp = 0x0191#16 ∧ t.th = 0x4B#8 ∧ t.tl = 0x46#8 ∧ t.cfg = 0x7F#8 ∧ t.spv = true ∧ t.status = .ok) ∧
    (let t := after (exec .readScratchpad (at_ .memory
        [.ok, .bytes [0x01#8, 0x90#8, 0x4B#8, 0x46#8, 0x00#8, 0xFF#8, 0x0C#8, 0x10#8, 0xE8#8]]))
     t.status = .crcMismatch) := by decide +kernel

/-- V111, V113, V114. -/
theorem test_readScratchpad_rejects :
    (after (exec .readScratchpad (at_ .memory [.ok, .bytes img111]))).info = 0x43#8 ∧
    (after (exec .readScratchpad (at_ .memory [.ok, .bytes img78]))).status = .configRegister ∧
    (after (exec .readScratchpad (at_ .memory [.ok, .bytes (List.replicate 9 0#8)]))).status = .configRegister := by
  decide +kernel

/-- V120. -/
theorem test_writeScratchpad :
    (after (exec (.writeScratchpad 0xF6#8 0xC9#8 .bits11) (at_ .memory [.ok]))).bus =
      [⟨.write [0x4E#8, 0xF6#8, 0xC9#8, 0x5F#8], .ok, [0x4E#8, 0xF6#8, 0xC9#8, 0x5F#8]⟩] := by decide

/-- V124: no wait after a failed write. -/
theorem test_convertTemperature_fails (e : TErr) :
    let t := after (exec .convertTemperature (at_ .memory [.err e, .ok]))
    t.status = .transport ∧ t.terr = e ∧ t.answers = [.ok] := ⟨rfl, rfl, rfl⟩

/-- V125, V126. -/
theorem test_memory_stubs :
    (after (exec .loadScratchpad (at_ .memory []))).info = 0xB8#8 ∧ (after (exec .saveScratchpad (at_ .memory []))).info = 0x48#8 ∧
    (after (exec .readPowerSupply (at_ .memory []))).status = .unimplemented ∧
    (after (exec .readPowerSupply (at_ .selection []))).status = .protocolViolation := by decide

/-- V132, V134. -/
theorem test_search :
    (let t := after (exec (.search false) { at_ .none [.item 0x7B06050403020110#64] with so := true })
     t.status = .familyCode ∧ t.info = 0x10#8 ∧ t.a = 0x7B06050403020110#64 ∧ t.av = false ∧ t.so = true) ∧
    (after (exec (.search false) (at_ .none [.item addr50]))).status = .searchEnd := by decide

/-- R130's example, as `search()`: the foreign device is reported and the enumeration goes on. -/
theorem test_runSearch :
    (runSearch (at_ .none [.item addr50, .item 0x7B06050403020110#64, .item 0x3900EEDDCCBBAA28#64, .noMore])).1 =
      [.address addr50, .foreign 0x7B06050403020110#64, .address 0x3900EEDDCCBBAA28#64] := by decide +kernel

/-- V137. -/
theorem test_temperature :
    let t := after (exec (.temperature addr50)
      (at_ .none (tempAnswers [0xFF#8, 0x5E#8, 0x4B#8, 0x46#8, 0x7F#8, 0xFF#8, 0x0C#8, 0x10#8, 0x56#8])))
    t.temp = 0xFF5E#16 ∧ t.spv = true ∧ t.phase = .none ∧ t.status = .ok ∧ t.bus.length = 8 := by decide +kernel

/-- P10: a transport failure in the middle of the composite keeps the old bits of `TEMP` and clears `SPV`. -/
theorem test_temperature_fails (e : TErr) :
    let t := after (exec (.temperature addr50)
      { at_ .none [.ok, .ok, .ok, .ok, .err e] with temp := 0xFF5E#16, spv := true })
    t.status = .transport ∧ t.terr = e ∧ t.temp = 0xFF5E#16 ∧ t.spv = false ∧ t.phase = .none :=
  ⟨rfl, rfl, rfl, rfl, rfl⟩

/-! ## Witnesses: for every statement with hypotheses, a concrete state and operands that meet them -/

/-- An idle block with a word at its port. -/
def ported (w : List Byte) : State := { State.reset with hostOps := [w] }

/-- `BUS_RESET` issued with no answer at hand: it waits at s2. -/
def waiting : State := { State.reset with busy := true, curOp := 0x00#8, sstep := 2#4, reqPort := some .reset }

theorem witness_wf : (Instr.writeScratchpad 0x4B#8 0x46#8 .bits9).wf = true := by decide
theorem witness_decodes : decode [0x4E#8, 0x4B#8, 0x46#8, 0x00#8] = .ok (.writeScratchpad 0x4B#8 0x46#8 .bits9) := by decide

theorem witness_illegal_code :
    (ported [0x0B#8]).busy = false ∧ (ported [0x0B#8]).sstep = 0#4 ∧ (ported [0x0B#8]).hostOps = [0x0B#8] :: [] ∧
    0x0B#8 ∉ [0x00#8, 0x01#8, 0x02#8, 0x03#8, 0x04#8, 0x05#8, 0x06#8, 0x07#8, 0x08#8, 0x09#8, 0x0A#8, 0x33#8, 0x55#8, 0xCC#8,
        0xEC#8, 0xF0#8, 0xBE#8, 0x4E#8, 0x44#8, 0xB8#8, 0x48#8, 0xB4#8] := by decide
theorem witness_illegal_HR :
    (ported [0x06#8, 0x04#8]).hostOps = (0x06#8 :: [0x04#8]) :: [] ∧ 0x06#8 ∈ [0x06#8, 0x09#8] ∧
    (0x04#8).extractLsb' 2 6 ≠ 0#6 := by decide
theorem witness_illegal_HW :
    (ported [0x4E#8, 0x4B#8, 0x46#8, 0x83#8]).hostOps = (0x4E#8 :: [0x4B#8, 0x46#8, 0x83#8]) :: [] ∧
    0x4E#8 ∈ [0x08#8, 0x4E#8] ∧ (0x83#8).extractLsb' 2 6 ≠ 0#6 := by decide
theorem witness_illegal_HF :
    (ported [0xF0#8, 0x02#8]).hostOps = (0xF0#8 :: [0x02#8]) :: [] ∧ (0x02#8).extractLsb' 1 7 ≠ 0#7 := by decide

theorem witness_step_runs :
    (ported [0x33#8]).busy = false ∧ (ported [0x33#8]).hostOps = [0x33#8] :: [] ∧ decode [0x33#8] = .ok .readAddress := by decide
theorem witness_idle : State.reset.busy = false ∧ State.reset.hostOps = [] := by decide
theorem witness_malformed :
    (ported [0x05#8]).busy = false ∧ (ported [0x05#8]).hostOps = [0x05#8] :: [] ∧ decode [0x05#8] = .malformed := by decide

theorem witness_waiting_registersOk : RegistersOk waiting ∧ waiting.busy = true ∧ waiting.answers = [] :=
  ⟨⟨by decide, by decide, by decide, by decide, by decide, by decide⟩, rfl, rfl⟩
theorem witness_busy_goes_on :
    waiting.busy = true ∧ ∃ t, step { waiting with answers := [.ok] } = .next t := ⟨rfl, _, rfl⟩

theorem witness_late_answers :
    exec .busReset State.reset = .next waiting ∧ waiting.busy = true ∧ ∃ u, step (arrive [.ok] waiting) = .next u :=
  ⟨rfl, rfl, _, rfl⟩

theorem witness_first_request :
    (at_ .selection []).answers = [] ∧ (at_ .selection []).phase = .selection ∧ (at_ .memory []).answers = [] ∧
    (at_ .memory []).phase = .memory ∧ ({ at_ .none [] with so := true } : State).answers = [] ∧
    ({ at_ .none [] with so := true } : State).so = true := by decide

theorem witness_invariants_step :
    RegistersOk (ported [0x00#8]) ∧ TrafficOk (ported [0x00#8]) ∧ step (ported [0x00#8]) = .next waiting :=
  ⟨⟨by decide, by decide, by decide, by decide, by decide, by decide⟩, by decide, rfl⟩

theorem witness_wrong_phase :
    phaseNeeded (.matchAddress addr50) = some .selection ∧ State.reset.phase ≠ .selection ∧
    phaseNeeded .readScratchpad = some .memory ∧ (at_ .selection []).phase ≠ .memory := by decide

theorem witness_transition_table :
    (∃ t, exec .busReset (at_ .none [.ok]) = .next t ∧ t.busy = false ∧ t.phase = .selection) ∧
    (∃ t, exec .skipAddress (at_ .selection [.ok]) = .next t ∧ t.busy = false ∧ t.phase = .memory) :=
  ⟨⟨_, rfl, by decide⟩, ⟨_, rfl, by decide +kernel⟩⟩

theorem witness_pure_keeps_phase :
    isPure (.crcCalc []) = true ∧
    (∃ t, exec (.crcCalc []) (at_ .memory []) = .next t ∧ t.busy = false ∧ t.phase = .memory) ∧
    (∃ t, exec (.crcCalc []) (at_ .selection []) = .next t ∧ t.busy = false ∧ t.phase = .selection) :=
  ⟨rfl, ⟨_, rfl, by decide⟩, ⟨_, rfl, by decide +kernel⟩⟩

theorem witness_groups_not_written :
    (∀ g ∈ [RegGroup.address, .buffer, .result, .decoded, .crcUnit, .searchOpen, .addressLatch, .writeLatch],
      g ∉ groupsWritten .skipAddress) ∧ .phase ∉ groupsWritten (.crcCalc []) ∧
    ∃ t, exec .skipAddress (at_ .selection []) = .next t ∧ t.busy = true := ⟨by decide, by decide, _, rfl, by decide⟩

theorem witness_results_change :
    (∃ t, exec .readScratchpad (at_ .memory [.ok, .bytes img62]) = .next t ∧ t.temp ≠ (at_ .memory []).temp) ∧
    (∃ t, exec (.search true) (at_ .none [.item 0x10#64]) = .next t ∧ t.a ≠ (at_ .none []).a) :=
  ⟨⟨_, rfl, by decide +kernel⟩, ⟨_, rfl, by decide +kernel⟩⟩

theorem witness_crc_laws :
    crc8 0x00#8 ([0x28#8, 0x01#8] ++ 0x02#8 :: [0x03#8, 0x04#8, 0x05#8, 0x06#8, 0x9E#8]) = 0x00#8 ∧ 0x02#8 ≠ 0x03#8 ∧
    [0x12#8, 0x34#8].length = [0xAB#8, 0xCD#8].length := by decide +kernel

theorem witness_cfgDecode : (0x5F#8 &&& 0x9F#8) = 0x1F#8 ∧ (0x9F#8 &&& 0x9F#8) ≠ 0x1F#8 ∧ cfgValid 0x5F#8 = true := by decide
theorem witness_spDecode :
    ((⟨0x01#8, 0x91#8, 0x4B#8, 0x46#8, 0x7F#8, 0xFF#8, 0x0C#8, 0x10#8, 0xDA#8⟩ : Image9).b4 &&& 0x9F#8) = 0x1F#8 ∧
    ((⟨0x01#8, 0x91#8, 0x4B#8, 0x46#8, 0x7E#8, 0xFF#8, 0x0C#8, 0x10#8, 0x55#8⟩ : Image9).b4 &&& 0x9F#8) ≠ 0x1F#8 := by decide

theorem witness_fixed_point :
    ∃ t u, exec (.spEncode 0xF6#8 0xC9#8 .bits11) State.reset = .next t ∧ 0xF6#8 = t.r.extractLsb' 0 8 ∧
      0xC9#8 = t.r.extractLsb' 8 8 ∧ 0x5F#8 = t.r.extractLsb' 16 8 ∧
      exec (.spDecode ⟨0x05#8, 0x50#8, 0xF6#8, 0xC9#8, 0x5F#8, 0xFF#8, 0x0C#8, 0x10#8, 0x3B#8⟩) t = .next u :=
  ⟨_, _, rfl, by decide, by decide +kernel, by decide +kernel, rfl⟩

theorem witness_float : 0x8000#16 ≠ 0#16 := by decide

theorem witness_busReset :
    (at_ .none [.ok]).answers = .ok :: [] ∧ (at_ .none [.err TErr.reset]).answers = .err TErr.reset :: [] := by decide

theorem witness_readAddress_ok :
    (at_ .selection [.ok, .bytes img50]).phase = .selection ∧
    (at_ .selection [.ok, .bytes img50]).answers = .ok :: .bytes img50 :: [] ∧ crc8 0x00#8 img50 = 0x00#8 := by decide +kernel
theorem witness_readAddress_crc :
    (at_ .selection [.ok, .bytes (List.replicate 8 0xFF#8)]).phase = .selection ∧
    crc8 0x00#8 (List.replicate 8 0xFF#8) ≠ 0x00#8 := by decide +kernel
theorem witness_readAddress_fails :
    (at_ .selection [.err TErr.reset]).phase = .selection ∧ (at_ .selection [.err TErr.reset]).answers = .err TErr.reset :: [] ∧
    (at_ .selection [.ok, .err TErr.reset]).answers = .ok :: .err TErr.reset :: [] ∧ (at_ .memory []).phase ≠ .selection := by decide

theorem witness_selection_commands :
    (at_ .selection [.ok]).phase = .selection ∧ (at_ .selection [.ok]).answers = .ok :: [] ∧
    (at_ .selection [.err TErr.reset]).answers = .err TErr.reset :: [] ∧ (at_ .none []).phase ≠ .selection := by decide

theorem witness_stubs :
    (at_ .selection []).phase = .selection ∧ (at_ .memory []).phase = .memory ∧ (at_ .memory []).phase ≠ .selection ∧
    (at_ .selection []).phase ≠ .memory := by decide

theorem witness_readScratchpad_ok :
    (at_ .memory [.ok, .bytes img62]).phase = .memory ∧
    (at_ .memory [.ok, .bytes img62]).answers = .ok :: .bytes img62 :: [] ∧ crc8 0x00#8 img62 = 0x00#8 ∧
    (0x7F#8 &&& 0x9F#8) = 0x1F#8 := by decide +kernel
theorem witness_readScratchpad_crc :
    (at_ .memory [.ok, .bytes img111]).answers = .ok :: .bytes img111 :: [] ∧ crc8 0x00#8 img111 ≠ 0x00#8 := by decide +kernel
theorem witness_readScratchpad_cfg :
    (at_ .memory [.ok, .bytes img78]).answers = .ok :: .bytes img78 :: [] ∧ crc8 0x00#8 img78 = 0x00#8 ∧
    (0x00#8 &&& 0x9F#8) ≠ 0x1F#8 := by decide +kernel
theorem witness_memory_commands :
    (at_ .memory [.ok]).phase = .memory ∧ (at_ .memory [.ok]).answers = .ok :: [] ∧ (at_ .memory [.ok]).answers = [.ok] ∧
    (at_ .memory [.ok, .ok]).answers = .ok :: .ok :: [] ∧ (at_ .memory [.err TErr.reset]).answers = .err TErr.reset :: [] ∧
    (at_ .memory [.ok, .err TErr.reset]).answers = .ok :: .err TErr.reset :: [] ∧ (at_ .selection []).phase ≠ .memory := by decide

theorem witness_search :
    (at_ .none [.item addr50]).answers = .item addr50 :: [] ∧ addr50.extractLsb' 0 8 = 0x28#8 ∧
    (at_ .none [.item 0x7B06050403020110#64]).answers = .item 0x7B06050403020110#64 :: [] ∧
    (0x7B06050403020110#64).extractLsb' 0 8 ≠ 0x28#8 ∧ (at_ .none [.itemErr TErr.reset]).answers = .itemErr TErr.reset :: [] ∧
    (at_ .none [.noMore]).answers = .noMore :: [] ∧ (at_ .none []).so = false ∧
    ({ at_ .none [] with so := true } : State).so = true := by decide

theorem witness_temperature :
    (at_ .none (tempAnswers img62)).answers = .ok :: .ok :: .ok :: .ok :: .ok :: .ok :: .ok :: .bytes img62 :: [] := by decide
theorem witness_temperature_fails :
    (at_ .none [.err TErr.reset]).answers = List.replicate 0 .ok ++ .err TErr.reset :: [] ∧
    (at_ .none [.ok, .ok, .ok, .ok, .ok, .ok, .ok, .err TErr.reset]).answers = List.replicate 7 .ok ++ .err TErr.reset :: [] := by decide
theorem witness_temperature_program :
    (∃ t, exec (.temperature addr50) (at_ .none (tempAnswers img62)) = .next t ∧ t.busy = false ∧ t.status = .ok) ∧
    (∃ t, exec (.temperature addr50) (at_ .none [.ok, .ok, .ok, .ok, .err TErr.reset]) = .next t ∧ t.busy = false ∧
      t.status = .transport) := ⟨⟨_, rfl, by decide +kernel⟩, ⟨_, rfl, by decide +kernel⟩⟩

theorem witness_errors :
    (∃ t, exec .skipAddress (at_ .memory []) = .next t ∧ t.busy = false ∧ statusIsError t.status = true ∧
      isPure .skipAddress = false) ∧
    (∃ t, exec (.cfgDecode 0x9F#8) (at_ .memory []) = .next t ∧ t.busy = false ∧ statusIsError t.status = true ∧
      isPure (.cfgDecode 0x9F#8) = true) := ⟨⟨_, rfl, by decide⟩, ⟨_, rfl, by decide +kernel⟩⟩

theorem witness_search_program (e : TErr) :
    (at_ .none [.item addr50, .itemErr e, .noMore]).answers =
      [.ok addr50, .error e].map itemAnswer ++ [.noMore] ++ [] := rfl

theorem witness_host_reads :
    State.reset.busy = false ∧ State.reset.spv = false ∧ State.reset.av = false ∧ State.reset.status ≠ .familyCode ∧
    ({ State.reset with spv := true, av := true } : State).busy = false ∧
    ({ State.reset with spv := true, av := true } : State).spv = true ∧
    ({ State.reset with spv := true, av := true } : State).av = true ∧
    ({ State.reset with status := .familyCode } : State).busy = false ∧
    ({ State.reset with status := .familyCode } : State).status = .familyCode ∧
    ({ State.reset with status := .familyCode } : State).av = false := by decide

/-- R11: after a `FAMILY_CODE` error the host reads the offending address, with `AV` = 0. -/
theorem test_hostRead_foreign_address :
    let t := after (exec (.search true) (at_ .none [.item 0x7B06050403020110#64]))
    t.av = false ∧ hostRead .rA t = .value 0x7B06050403020110 := by decide +kernel

end Sys2Proof.Tests
end

section
/-! Unpacking what `addrOfBytes` packs (30_encoding.md R64; 41_address.md R90). -/

namespace Sys2Proof

/-- Bit `i` of an address is bit `i mod 8` of its byte `i / 8`. -/
theorem getLsbD_addrOfBytes (a0 a1 a2 a3 a4 a5 a6 a7 : Byte) (i : Nat) :
    (addrOfBytes a0 a1 a2 a3 a4 a5 a6 a7).getLsbD i =
      if i < 8 then a0.getLsbD i else if i < 16 then a1.getLsbD (i - 8)
      else if i < 24 then a2.getLsbD (i - 16) else if i < 32 then a3.getLsbD (i - 24)
      else if i < 40 then a4.getLsbD (i - 32) else if i < 48 then a5.getLsbD (i - 40)
      else if i < 56 then a6.getLsbD (i - 48) else a7.getLsbD (i - 56) := by
  change BitVec.getLsbD (w := 8 + 8 + 8 + 8 + 8 + 8 + 8 + 8) (a7 ++ a6 ++ a5 ++ a4 ++ a3 ++ a2 ++ a1 ++ a0) i = _
  simp only [BitVec.getLsbD_append, Nat.sub_sub]
  grind

/-- The bytes of an address packed from eight bytes are those bytes (R64 (a), R90). -/
theorem addrBytes_addrOfBytes (a0 a1 a2 a3 a4 a5 a6 a7 : Byte) :
    addrBytes (addrOfBytes a0 a1 a2 a3 a4 a5 a6 a7) = [a0, a1, a2, a3, a4, a5, a6, a7] := by
  simp only [addrBytes, addrByte, List.cons.injEq, and_true]
  refine ⟨?_, ?_, ?_, ?_, ?_, ?_, ?_, ?_⟩ <;> ext i hi <;>
    simp only [BitVec.getElem_extractLsb', getLsbD_addrOfBytes] <;> grind

end Sys2Proof
end

section
/-! The invariant of the registers in the middle of an operation: what it becomes at a bus request, the ways an operation
ends in it, and one rule for each step that operations share. -/

namespace Sys2Proof.Machine

variable {op : Byte} {fs : List MicroStep} {n : Nat} {s t : State}

/-- What the valid flags and `SO` promise of the registers, in the middle of an operation as well as outside one. -/
structure DataOk (s : State) : Prop where
  search : s.so = true → s.phase = .none
  scratchpad : s.spv = true → s.cfg = 0x1F#8 ∨ s.cfg = 0x3F#8 ∨ s.cfg = 0x5F#8 ∨ s.cfg = 0x7F#8
  address : s.av = true → crc8 0x00#8 (addrBytes s.a) = 0x00#8 ∨ familyOf s.a = 0x28#8

/-- What holds when the operation `op` comes to a bus request at its step `n`, whatever stands at the request port: all of
`RegistersOk` that does not speak of the port. -/
structure Running (op : Byte) (n : Nat) (s : State) : Prop extends DataOk s where
  busy : s.busy = true
  curOp : s.curOp = op
  sstep : s.sstep = BitVec.ofNat 4 n
  waitingPhase : WaitingPhaseOk s
  searchClosed : op = 0x00#8 ∨ op = 0x0A#8 ∨ op = 0x55#8 ∨ op = 0xCC#8 → s.so = false
  scratchpadInvalid : op = 0xBE#8 ∨ op = 0x0A#8 → s.spv = false
  addressInvalid : op = 0x33#8 ∨ op = 0xF0#8 → s.av = false
  status : StatusOk s

theorem RegistersOk.dataOk (h : RegistersOk s) : DataOk s := by
  obtain ⟨-, -, ⟨hsearch, -⟩, ⟨hcfg, -⟩, ⟨haddr, -⟩, -⟩ := h
  exact ⟨hsearch, hcfg, haddr⟩

/-- A waiting block stands where its operation came to the request. -/
theorem RegistersOk.running (h : RegistersOk s) (hb : s.busy = true) : Running s.curOp s.sstep.toNat s := by
  obtain ⟨-, hclosed, -⟩ := h.search
  obtain ⟨-, hspv⟩ := h.scratchpad
  obtain ⟨-, hav⟩ := h.address
  exact
    { h.dataOk with
      busy := hb
      curOp := rfl
      sstep := by simp
      waitingPhase := h.waitingPhase
      searchClosed := hclosed hb
      scratchpadInvalid := hspv hb
      addressInvalid := hav hb
      status := h.status }

/-- An operation that comes to a request with no answer may wait there. -/
theorem Running.registersOk_offer (h : Running op n s) {q : BusRequest} (hq : pendingRequest (offer q s) = some q)
    (hnext : q = .searchNext false → s.so = true) : RegistersOk (offer q s) where
  sequencer := ⟨fun hb => absurd hb (by simp [h.busy]), fun _ => ⟨rfl, hq.symm⟩⟩
  waitingPhase := h.waitingPhase
  search := ⟨h.search, fun _ hop => h.searchClosed (h.curOp ▸ hop), fun _ hr => hnext (Option.some.inj hr)⟩
  scratchpad := ⟨h.scratchpad, fun _ hop => h.scratchpadInvalid (h.curOp ▸ hop)⟩
  address := ⟨h.address, fun _ hop => h.addressInvalid (h.curOp ▸ hop)⟩
  status := h.status

/-- Answering a request writes no register that the invariant speaks of. -/
theorem Running.takeAnswer (h : Running op n s) (q : BusRequest) (ans : Answer) (rest : List Answer) :
    Running op n (takeAnswer q ans rest s) := { h with }

/-- The step after a request, with `PHASE` as the step leaves it. -/
theorem Running.nextStep (h : Running op n s) (p : Phase) (m : Nat) (hp : s.so = true → p = .none)
    (hw : WaitingPhaseOk { s with phase := p, sstep := BitVec.ofNat 4 m }) :
    Running op m { s with phase := p, sstep := BitVec.ofNat 4 m } :=
  { h with search := hp, sstep := rfl, waitingPhase := hw }

/-! ## The ways an operation ends -/

/-- An operation that has ended keeps the invariant where its data, its status and its request port do. -/
theorem registersOk_ended (h : DataOk s) (hs : StatusOk s) (hport : s.reqPort = none) (hb : s.busy = false)
    (hstep : s.sstep = 0#4) : RegistersOk s where
  sequencer := ⟨fun _ => ⟨hstep, hport⟩, by simp [hb]⟩
  waitingPhase := by simp [hb]
  search := ⟨h.search, by simp [hb], by simp [hb]⟩
  scratchpad := ⟨h.scratchpad, by simp [hb]⟩
  address := ⟨h.address, by simp [hb]⟩
  status := hs

/-- Raising an error keeps the invariant where the new status and `INFO` fit the status table (R145). -/
theorem registersOk_raise {k : Status} {v : Byte} (h : DataOk s) (hport : s.reqPort = none)
    (hs : StatusOk (raise k v s)) : RegistersOk (raise k v s) :=
  registersOk_ended { h with } hs hport rfl rfl

theorem registersOk_transportError (e : TErr) (h : DataOk s) (hport : s.reqPort = none) :
    RegistersOk (transportError e s) :=
  registersOk_raise { h with } hport (by simp [StatusOk, infoFits])

theorem registersOk_searchEnd (h : DataOk s) (hport : s.reqPort = none) : RegistersOk (endOp (report .searchEnd s)) :=
  registersOk_ended { h with } (by simp [StatusOk, infoFits]) hport rfl rfl

/-- An operation whose last step reports `OK`. -/
theorem runSteps_report_registersOk (g : State → State) (h : DataOk (g s)) (hport : (g s).reqPort = none) :
    RegistersOk (runSteps [regs fun s => report .ok (g s)] n s) :=
  registersOk_ended { h with } (by simp [StatusOk, infoFits]) hport rfl rfl

theorem runSteps_succeed_registersOk (h : DataOk s) (hport : s.reqPort = none) :
    RegistersOk (runSteps [succeed] n s) :=
  runSteps_report_registersOk id h hport

/-! ## One rule per shared step

Each says that an operation which comes to the step ends or waits in the invariant, where what follows the step does. -/

/-- A step that asks for an acknowledgement (R41, R42): it ends in the invariant where its error path and what follows its
`OK` do. -/
theorem runSteps_ackStep_registersOk {q : BusRequest} {before after onErr : State → State} (h : Running op n s)
    (hq : pendingRequest (offer q s) = some q) (hnext : q ≠ .searchNext false)
    (herr : ∀ t, Running op n t → t.reqPort = none → DataOk (onErr (before t)) ∧ (onErr (before t)).reqPort = none)
    (hok : ∀ t, Running op n t → t.reqPort = none →
      RegistersOk (runSteps fs (n + 1) { after (before t) with sstep := BitVec.ofNat 4 (n + 1) })) :
    RegistersOk (runSteps (ackStep q before after onErr :: fs) n s) := by
  obtain ⟨rest, -, hgo⟩ | ⟨e, rest, -, hstop⟩ | hwait := ackStep_cases q before after onErr s
  · rw [runSteps_go hgo]
    exact hok _ (h.takeAnswer ..) rfl
  · rw [runSteps_stop hstop]
    obtain ⟨hd, hport⟩ := herr _ (h.takeAnswer ..) rfl
    exact registersOk_transportError e hd hport
  · rw [runSteps_wait hwait]
    exact h.registersOk_offer hq (absurd · hnext)

/-- `BusReset()` (R41). -/
theorem runSteps_busResetStep_registersOk {after : State → State} (h : Running op n s)
    (hq : pendingRequest (offer .reset s) = some .reset)
    (hok : ∀ t, Running op n t → t.reqPort = none →
      RegistersOk (runSteps fs (n + 1) { after t with sstep := BitVec.ofNat 4 (n + 1) })) :
    RegistersOk (runSteps (busResetStep after :: fs) n s) :=
  runSteps_ackStep_registersOk h hq (by simp) (fun _ ht hport => ⟨{ ht with search := fun _ => rfl }, hport⟩) hok

/-- `BusWrite(bytes)` (R42). -/
theorem runSteps_busWriteStep_registersOk {bytes : List Byte} {before after : State → State} (h : Running op n s)
    (hq : pendingRequest (offer (.write bytes) s) = some (.write bytes))
    (hbefore : before = id ∨ before = setPhase .none)
    (hok : ∀ t, Running op n t → t.reqPort = none →
      RegistersOk (runSteps fs (n + 1) { after (before t) with sstep := BitVec.ofNat 4 (n + 1) })) :
    RegistersOk (runSteps (busWriteStep bytes before after :: fs) n s) := by
  refine runSteps_ackStep_registersOk h hq (by simp) (fun t ht hport => ?_) hok
  obtain rfl | rfl := hbefore
  · exact ⟨ht.toDataOk, hport⟩
  · exact ⟨{ ht with search := fun _ => rfl }, hport⟩

/-- `BusRead(k)` (R43): the receive buffer is not part of the invariant. -/
theorem runSteps_busReadStep_registersOk {k : Nat} (h : Running op n s)
    (hq : pendingRequest (offer (.read k) s) = some (.read k))
    (hok : ∀ t, Running op n t → t.reqPort = none →
      RegistersOk (runSteps fs (n + 1) { t with sstep := BitVec.ofNat 4 (n + 1) })) :
    RegistersOk (runSteps (busReadStep k :: fs) n s) := by
  obtain ⟨bs, rest, -, -, hgo⟩ | ⟨e, rest, free, -, -, hstop⟩ | hwait := busReadStep_cases k s
  · rw [runSteps_go hgo]
    exact hok { takeAnswer (.read k) (.bytes bs) rest s with buf := fillImage bs s.buf } { h with } rfl
  · rw [runSteps_stop hstop]
    exact registersOk_transportError e { h with } rfl
  · rw [runSteps_wait hwait]
    exact h.registersOk_offer hq (by simp)

/-- `Delay(us)` (R45). -/
theorem runSteps_delayStep_registersOk {us : Nat} (h : Running op n s)
    (hq : pendingRequest (offer (.delay us) s) = some (.delay us))
    (hok : ∀ t, Running op n t → t.reqPort = none →
      RegistersOk (runSteps fs (n + 1) { t with sstep := BitVec.ofNat 4 (n + 1) })) :
    RegistersOk (runSteps (delayStep us :: fs) n s) := by
  obtain ⟨rest, -, hgo⟩ | hwait := delayStep_cases us s
  · rw [runSteps_go hgo]
    exact hok _ (h.takeAnswer ..) rfl
  · rw [runSteps_wait hwait]
    exact h.registersOk_offer hq (by simp)

/-- `phase_check(OP, need)` (R147): `INFO` is one of the codes that the status table has for a violation. -/
theorem runSteps_phaseCheck_registersOk {need : Phase} (hop : infoFits .protocolViolation op = true) (h : DataOk s)
    (hport : s.reqPort = none)
    (hok : s.phase = need → RegistersOk (runSteps fs (n + 1) { s with sstep := BitVec.ofNat 4 (n + 1) })) :
    RegistersOk (runSteps (phaseCheck op need :: fs) n s) := by
  obtain ⟨hp, hgo⟩ | ⟨-, hstop⟩ := phaseCheck_cases op need s
  · rw [runSteps_go hgo]
    exact hok hp
  · rw [runSteps_stop hstop]
    exact registersOk_raise { h with search := fun _ => rfl } hport (by simp [StatusOk, hop])

/-- The CRC check of the receive buffer (R89): what follows it knows that the checksum is 0. -/
theorem runSteps_crcCheckStep_registersOk {k : Nat} (h : DataOk s) (hport : s.reqPort = none)
    (hok : ∀ t, DataOk t → t.reqPort = none → crc8 0x00#8 (bufFront k t.buf) = 0x00#8 →
      RegistersOk (runSteps fs (n + 1) t)) :
    RegistersOk (runSteps (crcCheckStep k :: fs) n s) := by
  obtain ⟨hcrc, hgo⟩ | ⟨hcrc, hstop⟩ := crcCheckStep_cases k s
  · rw [runSteps_go hgo]
    exact hok _ { h with } hport hcrc
  · rw [runSteps_stop hstop]
    exact registersOk_raise { h with } hport (by simp [StatusOk, infoFits, hcrc])

theorem not_configByte_of_cfgValid_false {b : Byte} (h : cfgValid b = false) :
    b ≠ 0x1F#8 ∧ b ≠ 0x3F#8 ∧ b ≠ 0x5F#8 ∧ b ≠ 0x7F#8 := by
  refine ⟨?_, ?_, ?_, ?_⟩ <;> rintro rfl <;> exact absurd h (by decide)

/-- The configuration error of a byte that is not one of the four valid ones (R97, R104). -/
theorem registersOk_configError {b : Byte} (hb : cfgValid b = false) (h : DataOk s) (hport : s.reqPort = none) :
    RegistersOk (raise .configRegister b s) :=
  registersOk_raise h hport ⟨decide_eq_true (not_configByte_of_cfgValid_false hb), by simp⟩

/-- The last steps of `SP_DECODE`, `READ_SCRATCHPAD` and `TEMPERATURE`: `SPV` is set only after the configuration check. -/
theorem runSteps_loadDecoded_registersOk (h : DataOk s) (hport : s.reqPort = none) :
    RegistersOk (runSteps [cfgCheckStep, regs loadDecoded, succeed] n s) := by
  obtain ⟨hcfg, hgo⟩ | ⟨hcfg, hstop⟩ := cfgCheckStep_cases s
  · rw [runSteps_go hgo, runSteps_regs]
    exact runSteps_succeed_registersOk { h with scratchpad := fun _ => cfgValid_four hcfg } hport
  · rw [runSteps_stop hstop]
    exact registersOk_configError hcfg h hport

/-- The last steps of `READ_SCRATCHPAD` and `TEMPERATURE`, from the read of the image. -/
theorem runSteps_readScratchpadImage_registersOk (h : Running op n s)
    (hq : pendingRequest (offer (.read Config.nSp) s) = some (.read Config.nSp)) :
    RegistersOk (runSteps
      [busReadStep Config.nSp, crcCheckStep Config.nSp, cfgCheckStep, regs loadDecoded, succeed] n s) :=
  runSteps_busReadStep_registersOk h hq fun _ ht hport =>
    runSteps_crcCheckStep_registersOk { ht with } hport fun _ hd hport' _ => runSteps_loadDecoded_registersOk hd hport'

end Sys2Proof.Machine
end

section
/-! Each bus operation from each of its requests to its end or its next request (R110 to R113, R120 to R122, R130, R131). -/

namespace Sys2Proof.Machine

variable {op : Byte} {fs : List MicroStep} {n : Nat} {s t : State}

/-- Outside `TEMPERATURE` the phase of a waiting operation does not depend on the step it waits at. -/
theorem Running.nextStep_samePhase (h : Running op n s) (hop : op ≠ 0x0A#8) (m : Nat) :
    Running op m { s with sstep := BitVec.ofNat 4 m } :=
  h.nextStep s.phase m h.search fun hb hreset => by
    obtain ⟨hcommand, -⟩ := h.waitingPhase hb hreset
    exact ⟨hcommand, fun htemp => absurd (h.curOp.symm.trans htemp) hop⟩

/-! ## From a request to the end -/

theorem busReset_s2_registersOk (h : Running 0x00#8 2 s) : RegistersOk (runSteps (stepsBusReset.drop 1) 2 s) :=
  runSteps_busResetStep_registersOk h (by simp [pendingRequest, h.curOp, h.sstep]) fun t ht hport =>
    runSteps_report_registersOk (setPhase .selection) { ht with search := by simp [ht.searchClosed] } hport

/-- The CRC check of the buffer's first eight bytes is the check of the address made from them (R94, R111). -/
theorem crc8_addrBytes_addrOfImage {m : Image9} (h : crc8 0x00#8 (bufFront 8 m) = 0x00#8) :
    crc8 0x00#8 (addrBytes (addrOfImage m)) = 0x00#8 := by
  rw [addrOfImage, addrBytes_addrOfBytes]
  exact h

theorem readAddress_s5_registersOk (h : Running 0x33#8 5 s) : RegistersOk (runSteps (stepsReadAddress.drop 4) 5 s) :=
  runSteps_busReadStep_registersOk h (by simp [pendingRequest, h.curOp, h.sstep, Config.nAddr]) fun t ht hport =>
    runSteps_crcCheckStep_registersOk { ht with } hport fun u hu hport' hcrc => by
      rw [runSteps_regs]
      exact runSteps_succeed_registersOk { hu with address := fun _ => .inl (crc8_addrBytes_addrOfImage hcrc) } hport'

theorem readAddress_s4_registersOk (h : Running 0x33#8 4 s) : RegistersOk (runSteps (stepsReadAddress.drop 3) 4 s) :=
  runSteps_busWriteStep_registersOk h (by simp [pendingRequest, h.curOp, h.sstep, Config.cmdReadAddress]) (.inl rfl)
    fun _ ht _ => readAddress_s5_registersOk (ht.nextStep_samePhase (by decide) 5)

theorem matchAddress_s3_registersOk (h : Running 0x55#8 3 s) : RegistersOk (runSteps (stepsMatchAddress.drop 2) 3 s) :=
  runSteps_busWriteStep_registersOk (bytes := Config.cmdMatchAddress :: addrBytes s.opa) h
    (by simp [pendingRequest, h.curOp, h.sstep, Config.cmdMatchAddress]) (.inl rfl) fun t ht hport =>
    runSteps_report_registersOk (setPhase .memory) { ht with search := by simp [ht.searchClosed] } hport

theorem skipAddress_s3_registersOk (h : Running 0xCC#8 3 s) : RegistersOk (runSteps (stepsSkipAddress.drop 2) 3 s) :=
  runSteps_busWriteStep_registersOk h (by simp [pendingRequest, h.curOp, h.sstep, Config.cmdSkipAddress]) (.inl rfl)
    fun t ht hport =>
    runSteps_report_registersOk (setPhase .memory) { ht with search := by simp [ht.searchClosed] } hport

theorem readScratchpad_s5_registersOk (h : Running 0xBE#8 5 s) : RegistersOk (runSteps (stepsReadScratchpad.drop 4) 5 s) :=
  runSteps_readScratchpadImage_registersOk h (by simp [pendingRequest, h.curOp, h.sstep, Config.nSp])

theorem readScratchpad_s4_registersOk (h : Running 0xBE#8 4 s) : RegistersOk (runSteps (stepsReadScratchpad.drop 3) 4 s) :=
  runSteps_busWriteStep_registersOk h (by simp [pendingRequest, h.curOp, h.sstep, Config.cmdReadScratchpad]) (.inl rfl)
    fun _ ht _ => readScratchpad_s5_registersOk (ht.nextStep_samePhase (by decide) 5)

theorem writeScratchpad_s3_registersOk (h : Running 0x4E#8 3 s) :
    RegistersOk (runSteps (stepsWriteScratchpad.drop 2) 3 s) :=
  runSteps_busWriteStep_registersOk (bytes := Config.cmdWriteScratchpad :: writeBytes s.opw) h
    (by simp [pendingRequest, h.curOp, h.sstep, Config.cmdWriteScratchpad]) (.inl rfl) fun _ ht hport =>
    runSteps_succeed_registersOk { ht with } hport

theorem convertTemperature_s4_registersOk (h : Running 0x44#8 4 s) :
    RegistersOk (runSteps (stepsConvertTemperature.drop 3) 4 s) :=
  runSteps_delayStep_registersOk h (by simp [pendingRequest, h.curOp, h.sstep, Config.tConvMax]) fun _ ht hport =>
    runSteps_succeed_registersOk { ht with } hport

theorem convertTemperature_s3_registersOk (h : Running 0x44#8 3 s) :
    RegistersOk (runSteps (stepsConvertTemperature.drop 2) 3 s) :=
  runSteps_busWriteStep_registersOk h (by simp [pendingRequest, h.curOp, h.sstep, Config.cmdConvertTemperature])
    (.inl rfl) fun _ ht _ => convertTemperature_s4_registersOk (ht.nextStep_samePhase (by decide) 4)

/-- `SEARCH` from its request: `PHASE` is `NONE` there and `AV` is 0, so the item may open the enumeration and `A` may change;
`AV` is set only after the family check. -/
theorem search_s3_registersOk {first : Bool} (h : Running 0xF0#8 3 s) (hnext : first = false → s.so = true) :
    RegistersOk (runSteps ((stepsSearch first).drop 2) 3 s) := by
  have hphase : s.phase = .none := by simpa [h.curOp] using h.waitingPhase h.busy
  have hav : s.av = false := h.addressInvalid (by simp)
  change RegistersOk (runSteps [searchItemStep first, searchFamilyCheck, regs _] 3 s)
  obtain ⟨a, rest, -, hgo⟩ | ⟨e, rest, -, hstop⟩ | ⟨rest, -, hstop⟩ | hwait := searchItemStep_cases first s
  · rw [runSteps_go hgo]
    set u : State := { takeAnswer (.searchNext first) (.item a) rest s with so := true, a := a, sstep := BitVec.ofNat 4 4 }
    have hu : DataOk u := { h with search := fun _ => hphase, address := by simp [u, hav] }
    obtain ⟨hfam, hpass⟩ | ⟨hfam, hfail⟩ := searchFamilyCheck_cases u
    · rw [runSteps_go hpass]
      exact runSteps_report_registersOk (fun v => { v with av := true }) { hu with address := fun _ => .inr hfam } rfl
    · rw [runSteps_stop hfail]
      exact registersOk_raise hu rfl (by simp [StatusOk, infoFits, hfam, u, hav])
  · rw [runSteps_stop hstop]
    exact registersOk_transportError e { h with search := fun _ => hphase } rfl
  · rw [runSteps_stop hstop]
    exact registersOk_searchEnd { h with search := by simp } rfl
  · rw [runSteps_wait hwait]
    refine h.registersOk_offer ?_ fun hq => hnext (by simpa using hq)
    cases first <;> simp [pendingRequest, h.curOp, h.sstep]

/-! ## TEMPERATURE from each of its requests -/

/-- `TEMPERATURE` at its next request: it runs with `SO` = 0, so `PHASE` is as its steps leave it. -/
theorem Running.temperatureNextStep (h : Running 0x0A#8 n s) (p : Phase) (m : Nat)
    (hw : WaitingPhaseOk { s with phase := p, sstep := BitVec.ofNat 4 m }) :
    Running 0x0A#8 m { s with phase := p, sstep := BitVec.ofNat 4 m } :=
  h.nextStep p m (by simp [h.searchClosed]) hw

/-- Steps s2 and s6 of R131. -/
theorem runSteps_temperatureReset_registersOk (h : Running 0x0A#8 n s) (hn : n = 2 ∨ n = 6)
    (hok : ∀ t, Running 0x0A#8 (n + 1) t → RegistersOk (runSteps fs (n + 1) t)) :
    RegistersOk (runSteps (busResetStep (setPhase .selection) :: fs) n s) := by
  refine runSteps_busResetStep_registersOk h ?_ fun t ht _ =>
    hok _ (ht.temperatureNextStep .selection (n + 1) ?_) <;>
    obtain rfl | rfl := hn
  · simp [pendingRequest, h.curOp, h.sstep]
  · simp [pendingRequest, h.curOp, h.sstep]
  · simp [WaitingPhaseOk, ht.curOp]
  · simp [WaitingPhaseOk, ht.curOp]

/-- Steps s3 and s7 of R131: the match frame is made from the address latch. -/
theorem runSteps_temperatureSelect_registersOk (h : Running 0x0A#8 n s) (hn : n = 3 ∨ n = 7)
    (hok : ∀ t, Running 0x0A#8 (n + 1) t → RegistersOk (runSteps fs (n + 1) t)) :
    RegistersOk (runSteps (temperatureSelect :: fs) n s) := by
  refine runSteps_busWriteStep_registersOk (bytes := Config.cmdMatchAddress :: addrBytes s.opa) h ?_ (.inr rfl)
    fun t ht _ => hok _ (ht.temperatureNextStep .memory (n + 1) ?_) <;>
    obtain rfl | rfl := hn
  · simp [pendingRequest, h.curOp, h.sstep, Config.cmdMatchAddress]
  · simp [pendingRequest, h.curOp, h.sstep, Config.cmdMatchAddress]
  · simp [WaitingPhaseOk, ht.curOp]
  · simp [WaitingPhaseOk, ht.curOp]

theorem temperature_s9_registersOk (h : Running 0x0A#8 9 s) : RegistersOk (runSteps (stepsTemperature.drop 8) 9 s) :=
  runSteps_readScratchpadImage_registersOk h (by simp [pendingRequest, h.curOp, h.sstep, Config.nSp])

theorem temperature_s8_registersOk (h : Running 0x0A#8 8 s) : RegistersOk (runSteps (stepsTemperature.drop 7) 8 s) :=
  runSteps_busWriteStep_registersOk h (by simp [pendingRequest, h.curOp, h.sstep, Config.cmdReadScratchpad]) (.inr rfl)
    fun _ ht _ => temperature_s9_registersOk (ht.temperatureNextStep .none 9 (by simp [WaitingPhaseOk]))

theorem temperature_s7_registersOk (h : Running 0x0A#8 7 s) : RegistersOk (runSteps (stepsTemperature.drop 6) 7 s) :=
  runSteps_temperatureSelect_registersOk h (.inr rfl) fun _ => temperature_s8_registersOk

theorem temperature_s6_registersOk (h : Running 0x0A#8 6 s) : RegistersOk (runSteps (stepsTemperature.drop 5) 6 s) :=
  runSteps_temperatureReset_registersOk h (.inr rfl) fun _ => temperature_s7_registersOk

theorem temperature_s5_registersOk (h : Running 0x0A#8 5 s) : RegistersOk (runSteps (stepsTemperature.drop 4) 5 s) := by
  refine runSteps_delayStep_registersOk h (by simp [pendingRequest, h.curOp, h.sstep, Config.tConvMax]) fun t ht _ => ?_
  have hphase : t.phase = .none := by simpa [ht.curOp, ht.sstep] using ht.waitingPhase ht.busy
  exact temperature_s6_registersOk (ht.temperatureNextStep t.phase 6 (by simp [WaitingPhaseOk, hphase]))

theorem temperature_s4_registersOk (h : Running 0x0A#8 4 s) : RegistersOk (runSteps (stepsTemperature.drop 3) 4 s) :=
  runSteps_busWriteStep_registersOk h (by simp [pendingRequest, h.curOp, h.sstep, Config.cmdConvertTemperature])
    (.inr rfl) fun _ ht _ => temperature_s5_registersOk (ht.temperatureNextStep .none 5 (by simp [WaitingPhaseOk]))

theorem temperature_s3_registersOk (h : Running 0x0A#8 3 s) : RegistersOk (runSteps (stepsTemperature.drop 2) 3 s) :=
  runSteps_temperatureSelect_registersOk h (.inl rfl) fun _ => temperature_s4_registersOk

theorem temperature_s2_registersOk (h : Running 0x0A#8 2 s) : RegistersOk (runSteps (stepsTemperature.drop 1) 2 s) :=
  runSteps_temperatureReset_registersOk h (.inl rfl) fun _ => temperature_s3_registersOk

end Sys2Proof.Machine
end

section
/-! Every operation from its acceptance (R30): it ends or waits in the invariant of the registers. -/

namespace Sys2Proof.Machine

variable {op : Byte} {fs : List MicroStep} {n : Nat} {s t : State}

/-- Clearing `AV` keeps the status registers' part of the invariant. -/
theorem StatusOk.av_false (h : StatusOk s) : StatusOk { s with av := false } := by
  obtain ⟨hinfo, hfound, hcrc, hfam⟩ := h
  refine ⟨hinfo, hfound, hcrc, fun hk => ?_⟩
  obtain ⟨hcode, -⟩ := hfam hk
  exact ⟨hcode, rfl⟩

/-- The phase check of a command and the consumption of the phase: the command comes to what follows with `PHASE` = `NONE`,
and with `SO` = 0, since it was in a phase. -/
theorem runSteps_command_registersOk {need : Phase} (hop : infoFits .protocolViolation op = true) (hneed : need ≠ .none)
    (h : DataOk s) (hs : StatusOk s) (hport : s.reqPort = none) (hbusy : s.busy = true) (hcur : s.curOp = op)
    (hspv : op = 0xBE#8 → s.spv = false) (hav : op = 0x33#8 → s.av = false)
    (hok : ∀ t, Running op (n + 2) t → t.reqPort = none → RegistersOk (runSteps fs (n + 2) t)) :
    RegistersOk (runSteps (phaseCheck op need :: regs (setPhase .none) :: fs) n s) := by
  refine runSteps_phaseCheck_registersOk hop h hport fun hphase => ?_
  rw [runSteps_regs]
  have hso : s.so = false := by
    by_contra hso
    exact hneed (hphase.symm.trans (h.search (by simpa using hso)))
  have hreset : op ≠ 0x00#8 := by rintro rfl; exact absurd hop (by decide)
  have htemp : op ≠ 0x0A#8 := by rintro rfl; exact absurd hop (by decide)
  have hsearch : op ≠ 0xF0#8 := by rintro rfl; exact absurd hop (by decide)
  exact hok _
    { h with
      search := fun _ => rfl
      busy := hbusy
      curOp := hcur
      sstep := rfl
      waitingPhase := by simp [WaitingPhaseOk, setPhase, hcur, htemp]
      searchClosed := fun _ => hso
      scratchpadInvalid := by simpa [htemp] using hspv
      addressInvalid := by simpa [hsearch] using hav
      status := hs } hport

theorem busReset_registersOk (h : DataOk s) (hs : StatusOk s) : RegistersOk (runOp 0x00#8 stepsBusReset s) :=
  busReset_s2_registersOk
    { h with
      search := by simp
      busy := rfl
      curOp := rfl
      sstep := rfl
      waitingPhase := by simp [WaitingPhaseOk]
      searchClosed := fun _ => rfl
      scratchpadInvalid := by simp
      addressInvalid := by simp
      status := hs }

theorem temperature_registersOk (h : DataOk s) (hs : StatusOk s) : RegistersOk (runOp 0x0A#8 stepsTemperature s) :=
  temperature_s2_registersOk
    { h with
      search := by simp
      scratchpad := by simp
      busy := rfl
      curOp := rfl
      sstep := rfl
      waitingPhase := by simp [WaitingPhaseOk]
      searchClosed := fun _ => rfl
      scratchpadInvalid := fun _ => rfl
      addressInvalid := by simp
      status := hs }

theorem search_registersOk (first : Bool) (h : DataOk s) (hs : StatusOk s) :
    RegistersOk (runOp 0xF0#8 (stepsSearch first) s) := by
  rw [runOp, stepsSearch, runSteps_regs]
  set u : State := { { accept 0xF0#8 s with av := false, phase := .none } with sstep := BitVec.ofNat 4 2 }
  have hu : DataOk u := { h with search := fun _ => rfl, address := by simp [u] }
  obtain ⟨hopen, hgo⟩ | ⟨-, -, hstop⟩ := searchOpenCheck_cases first u
  · rw [runSteps_go hgo]
    refine search_s3_registersOk
      { hu with
        busy := rfl
        curOp := rfl
        sstep := rfl
        waitingPhase := by simp [WaitingPhaseOk, u]
        searchClosed := by simp
        scratchpadInvalid := by simp
        addressInvalid := fun _ => rfl
        status := hs.av_false } fun hf => ?_
    simpa [hf] using hopen
  · rw [runSteps_stop hstop]
    exact registersOk_searchEnd hu rfl

theorem readAddress_registersOk (h : DataOk s) (hs : StatusOk s) : RegistersOk (runOp 0x33#8 stepsReadAddress s) :=
  runSteps_command_registersOk (s := { accept 0x33#8 s with av := false, sstep := 2#4 }) (by decide) (by decide)
    { h with address := by simp } hs.av_false rfl rfl rfl (by simp) (fun _ => rfl) fun _ ht _ => readAddress_s4_registersOk ht

theorem matchAddress_registersOk (h : DataOk s) (hs : StatusOk s) : RegistersOk (runOp 0x55#8 stepsMatchAddress s) :=
  runSteps_command_registersOk (by decide) (by decide) { h with } hs rfl rfl rfl (by simp) (by simp)
    fun _ ht _ => matchAddress_s3_registersOk ht

theorem skipAddress_registersOk (h : DataOk s) (hs : StatusOk s) : RegistersOk (runOp 0xCC#8 stepsSkipAddress s) :=
  runSteps_command_registersOk (by decide) (by decide) { h with } hs rfl rfl rfl (by simp) (by simp)
    fun _ ht _ => skipAddress_s3_registersOk ht

theorem readScratchpad_registersOk (h : DataOk s) (hs : StatusOk s) :
    RegistersOk (runOp 0xBE#8 stepsReadScratchpad s) :=
  runSteps_command_registersOk (s := { accept 0xBE#8 s with spv := false, sstep := 2#4 }) (by decide) (by decide)
    { h with scratchpad := by simp } hs rfl rfl rfl (fun _ => rfl) (by simp) fun _ ht _ => readScratchpad_s4_registersOk ht

theorem writeScratchpad_registersOk (h : DataOk s) (hs : StatusOk s) :
    RegistersOk (runOp 0x4E#8 stepsWriteScratchpad s) :=
  runSteps_command_registersOk (by decide) (by decide) { h with } hs rfl rfl rfl (by simp) (by simp)
    fun _ ht _ => writeScratchpad_s3_registersOk ht

theorem convertTemperature_registersOk (h : DataOk s) (hs : StatusOk s) :
    RegistersOk (runOp 0x44#8 stepsConvertTemperature s) :=
  runSteps_command_registersOk (by decide) (by decide) { h with } hs rfl rfl rfl (by simp) (by simp)
    fun _ ht _ => convertTemperature_s3_registersOk ht

/-- The four stubs (R146). -/
theorem stub_registersOk {need : Phase} (hop : infoFits .protocolViolation op = true)
    (hstub : infoFits .unimplemented op = true) (hneed : need ≠ .none) (h : DataOk s) (hs : StatusOk s) :
    RegistersOk (runOp op [phaseCheck op need, regs (setPhase .none), stub op] s) := by
  refine runSteps_command_registersOk hop hneed { h with } hs rfl rfl rfl ?_ ?_ fun t ht hport => ?_
  · rintro rfl; exact absurd hstub (by decide)
  · rintro rfl; exact absurd hstub (by decide)
  · exact registersOk_raise ht.toDataOk hport (by simp [StatusOk, hstub])

/-! ## The pure operations -/

/-- The last steps of `CRC_CHECK` (R87 s4): a mismatch carries the checksum, which is not 0. -/
theorem runSteps_crcVerdict_registersOk (h : DataOk s) (hport : s.reqPort = none) :
    RegistersOk (runSteps [crcVerdict, succeed] n s) := by
  rw [runSteps_cons, crcVerdict]
  split_ifs with hcrc
  · exact runSteps_succeed_registersOk { h with } hport
  · exact registersOk_raise h hport (by simp [StatusOk, infoFits, hcrc])

theorem cfgDecode_registersOk (b : Byte) (h : DataOk s) (he : execCfgDecode b s = .next t) : RegistersOk t := by
  obtain rfl := Host.Outcome.next.inj he
  rw [runOp, runSteps_cons]
  cases hb : cfgValid b
  · exact registersOk_configError hb { h with } rfl
  · exact runSteps_report_registersOk (setR (resBits b)) { h with } rfl

/-- Every operation, accepted in a state whose data and status are as the invariant has them. -/
theorem exec_registersOk (i : Instr) (h : DataOk s) (hs : StatusOk s) (he : exec i s = .next t) : RegistersOk t := by
  cases i with
  | busReset => cases he; exact busReset_registersOk h hs
  | crcCalc data => cases he; exact runSteps_report_registersOk (fun s => setR s.crc s) { h with } rfl
  | crcCalcInit seed data => cases he; exact runSteps_report_registersOk (fun s => setR s.crc s) { h with } rfl
  | crcCheck data => cases he; exact runSteps_crcVerdict_registersOk { h with } rfl
  | familyCode a => cases he; exact runSteps_report_registersOk (fun s => setR (familyOf s.opa) s) { h with } rfl
  | cfgDecode b => exact cfgDecode_registersOk b h he
  | cfgEncode res => cases he; exact runSteps_report_registersOk (setR (cfgOf res)) { h with } rfl
  | spDecode img => cases he; exact runSteps_loadDecoded_registersOk { h with scratchpad := by simp } rfl
  | spEncode th tl res =>
    cases he; exact runSteps_report_registersOk (fun s => setR (packWriteImage s.opw) s) { h with } rfl
  | convTime res => cases he; exact runSteps_report_registersOk (setR (convTimeOf res)) { h with } rfl
  | temperature a => cases he; exact temperature_registersOk { h with } hs
  | readAddress => cases he; exact readAddress_registersOk h hs
  | matchAddress a => cases he; exact matchAddress_registersOk { h with } hs
  | skipAddress => cases he; exact skipAddress_registersOk h hs
  | searchAlarm => cases he; exact stub_registersOk (by decide) (by decide) (by decide) h hs
  | search first => cases he; exact search_registersOk first h hs
  | readScratchpad => cases he; exact readScratchpad_registersOk h hs
  | writeScratchpad th tl res => cases he; exact writeScratchpad_registersOk { h with } hs
  | convertTemperature => cases he; exact convertTemperature_registersOk h hs
  | loadScratchpad => cases he; exact stub_registersOk (by decide) (by decide) (by decide) h hs
  | saveScratchpad => cases he; exact stub_registersOk (by decide) (by decide) (by decide) h hs
  | readPowerSupply => cases he; exact stub_registersOk (by decide) (by decide) (by decide) h hs

end Sys2Proof.Machine
end

section
/-! The step: going on with a waiting operation (R31, R179) and taking a word (R30, R148) keep the invariant. -/

namespace Sys2Proof.Machine

variable {op : Byte} {fs : List MicroStep} {n : Nat} {s t : State}

/-- A choice that may answer `none` only in its second branch. -/
theorem isSome_ite_some_iff {α : Type} {c : Prop} [Decidable c] {a : α} {x : Option α} :
    (if c then some a else x).isSome = true ↔ c ∨ x.isSome = true := by
  split <;> simp [*]

/-- The operations and the steps at which a request can stand. -/
theorem pendingRequest_isSome_cases (h : (pendingRequest s).isSome = true) :
    (s.curOp = 0x00#8 ∧ s.sstep.toNat = 2) ∨
    (s.curOp = 0x33#8 ∧ (s.sstep.toNat = 4 ∨ s.sstep.toNat = 5)) ∨
    (s.curOp = 0x55#8 ∧ s.sstep.toNat = 3) ∨
    (s.curOp = 0xCC#8 ∧ s.sstep.toNat = 3) ∨
    (s.curOp = 0xBE#8 ∧ (s.sstep.toNat = 4 ∨ s.sstep.toNat = 5)) ∨
    (s.curOp = 0x4E#8 ∧ s.sstep.toNat = 3) ∨
    (s.curOp = 0x44#8 ∧ (s.sstep.toNat = 3 ∨ s.sstep.toNat = 4)) ∨
    (s.curOp = 0xF0#8 ∧ s.sstep.toNat = 3 ∧ ∃ first, s.reqPort = some (.searchNext first)) ∨
    (s.curOp = 0x0A#8 ∧ 2 ≤ s.sstep.toNat ∧ s.sstep.toNat ≤ 9) := by
  have hop : s.curOp ∈ [0x00#8, 0x33#8, 0x55#8, 0xCC#8, 0xBE#8, 0x4E#8, 0x44#8, 0xF0#8, 0x0A#8] := by
    by_contra hop
    simp only [List.mem_cons, not_or] at hop
    simp [pendingRequest, hop] at h
  simp only [List.mem_cons, List.not_mem_nil, or_false] at hop
  rcases hop with hop | hop | hop | hop | hop | hop | hop | hop | hop <;>
    simp [pendingRequest, hop, isSome_ite_some_iff] at h ⊢
  on_goal 8 => tauto
  all_goals omega

/-- A block that goes on runs the steps left, from the one it waits at. -/
theorem resume_next (h : resume s = .next t) : t = runSteps (stepsLeft s) s.sstep.toNat s := by
  unfold resume at h
  split at h
  · cases h
  · rename_i f fs hleft
    rw [hleft]
    split at h <;> cases h <;> rfl

theorem temperature_registersOk_of_request (h : Running 0x0A#8 n s) (hn : 2 ≤ n) (hn' : n ≤ 9) :
    RegistersOk (runSteps (stepsTemperature.drop (n - 1)) n s) := by
  interval_cases n
  · exact temperature_s2_registersOk h
  · exact temperature_s3_registersOk h
  · exact temperature_s4_registersOk h
  · exact temperature_s5_registersOk h
  · exact temperature_s6_registersOk h
  · exact temperature_s7_registersOk h
  · exact temperature_s8_registersOk h
  · exact temperature_s9_registersOk h

/-- The steps left of a known operation at a step that is not 0. -/
theorem stepsLeft_eq (hfs : stepsInProgress s = some fs) (hn : s.sstep.toNat = n + 1) : stepsLeft s = fs.drop n := by
  have h0 : s.sstep ≠ 0#4 := fun h => by simp [h] at hn
  simp [stepsLeft, hfs, h0, hn]

/-- An operation goes on from the step it waits at as it would from there with the answer at hand. -/
theorem registersOk_resumed (h : RegistersOk s) (hb : s.busy = true) (hop : s.curOp = op) (hn : s.sstep.toNat = n + 1)
    (hfs : stepsInProgress s = some fs)
    (hok : Running op (n + 1) s → RegistersOk (runSteps (fs.drop n) (n + 1) s)) :
    RegistersOk (runSteps (stepsLeft s) s.sstep.toNat s) := by
  rw [stepsLeft_eq hfs hn, hn]
  exact hok (hop ▸ hn ▸ h.running hb)

theorem runSteps_stepsLeft_registersOk (h : RegistersOk s) (hb : s.busy = true) :
    RegistersOk (runSteps (stepsLeft s) s.sstep.toNat s) := by
  obtain ⟨-, hwait⟩ := h.sequencer
  obtain ⟨hsome, hpend⟩ := hwait hb
  obtain ⟨-, -, hnext⟩ := h.search
  rw [hpend] at hsome
  obtain ⟨hop, hn⟩ | ⟨hop, hn | hn⟩ | ⟨hop, hn⟩ | ⟨hop, hn⟩ | ⟨hop, hn | hn⟩ | ⟨hop, hn⟩ | ⟨hop, hn | hn⟩ |
    ⟨hop, hn, first, hreq⟩ | ⟨hop, hlo, hhi⟩ := pendingRequest_isSome_cases hsome
  · exact registersOk_resumed h hb hop hn (by simp [stepsInProgress, hop]) busReset_s2_registersOk
  · exact registersOk_resumed h hb hop hn (by simp [stepsInProgress, hop]) readAddress_s4_registersOk
  · exact registersOk_resumed h hb hop hn (by simp [stepsInProgress, hop]) readAddress_s5_registersOk
  · exact registersOk_resumed h hb hop hn (by simp [stepsInProgress, hop]) matchAddress_s3_registersOk
  · exact registersOk_resumed h hb hop hn (by simp [stepsInProgress, hop]) skipAddress_s3_registersOk
  · exact registersOk_resumed h hb hop hn (by simp [stepsInProgress, hop]) readScratchpad_s4_registersOk
  · exact registersOk_resumed h hb hop hn (by simp [stepsInProgress, hop]) readScratchpad_s5_registersOk
  · exact registersOk_resumed h hb hop hn (by simp [stepsInProgress, hop]) writeScratchpad_s3_registersOk
  · exact registersOk_resumed h hb hop hn (by simp [stepsInProgress, hop]) convertTemperature_s3_registersOk
  · exact registersOk_resumed h hb hop hn (by simp [stepsInProgress, hop]) convertTemperature_s4_registersOk
  · exact registersOk_resumed h hb hop hn (by simp [stepsInProgress, hop, hreq]) fun hrun =>
      search_s3_registersOk hrun fun hf => hnext hb (hf ▸ hreq)
  · obtain ⟨m, hm⟩ : ∃ m, s.sstep.toNat = m + 1 := ⟨s.sstep.toNat - 1, by omega⟩
    exact registersOk_resumed h hb hop hm (by simp [stepsInProgress, hop]) fun hrun =>
      temperature_registersOk_of_request hrun (by omega) (by omega)

/-- All a step that answers a next state can do: an operation goes on, nothing happens for want of a word, an operation is
accepted, or an illegal word is taken (R148, R179). -/
theorem step_cases (h : step s = .next t) :
    (s.busy = true ∧ resume s = .next t) ∨
    (s.busy = false ∧ s.hostOps = [] ∧ t = s) ∨
    (∃ w rest i, s.busy = false ∧ s.hostOps = w :: rest ∧ decode w = .ok i ∧
      exec i { s with hostOps := rest } = .next t) ∨
    (∃ w rest op, s.busy = false ∧ s.hostOps = w :: rest ∧ decode w = .illegal op ∧
      t = takeIllegal op { s with hostOps := rest }) := by
  rw [step, fetch] at h
  cases hb : s.busy with
  | true => exact .inl ⟨rfl, by simpa [hb] using h⟩
  | false =>
    rcases hops : s.hostOps with _ | ⟨w, rest⟩
    · exact .inr (.inl ⟨rfl, rfl, by simpa [hb, hops, eq_comm] using h⟩)
    · cases hw : decode w with
      | ok i => exact .inr (.inr (.inl ⟨w, rest, i, rfl, rfl, hw, by simpa [hb, hops, hw] using h⟩))
      | illegal op => exact .inr (.inr (.inr ⟨w, rest, op, rfl, rfl, hw, by simpa [hb, hops, hw, eq_comm] using h⟩))
      | malformed => simp [hb, hops, hw] at h

/-- Settles O12: a busy block goes on from its request, an idle one runs the operation it takes, takes an illegal word, or
stays as it is. -/
theorem stepKeepsTheRegisterInvariant : Obligations.StepKeepsTheRegisterInvariant := by
  intro s t h hstep
  obtain ⟨hb, hresume⟩ | ⟨-, -, rfl⟩ | ⟨w, rest, i, -, -, -, hexec⟩ | ⟨w, rest, op, hb, -, -, rfl⟩ := step_cases hstep
  · exact resume_next hresume ▸ runSteps_stepsLeft_registersOk h hb
  · exact h
  · exact exec_registersOk (s := { s with hostOps := rest }) i { h.dataOk with } h.status hexec
  · obtain ⟨hidle, -⟩ := h.sequencer
    obtain ⟨-, hport⟩ := hidle hb
    exact registersOk_raise { h.dataOk with } hport (by simp [StatusOk, infoFits])

end Sys2Proof.Machine
end

section
/-! The waiting states of the nine bus operations at their first request. -/

namespace Sys2Proof.Machine

variable {fs : List MicroStep} {n : Nat} {s : State}

/-- With no answer at hand a reset or a write waits. -/
theorem ackStep_none {q : BusRequest} {before after onErr : State → State} (h : s.answers = []) :
    ackStep q before after onErr s = .wait (offer q s) :=
  ask_none h

theorem runSteps_ackStep_none {q : BusRequest} {before after onErr : State → State} (h : s.answers = []) :
    runSteps (ackStep q before after onErr :: fs) n s = offer q s :=
  runSteps_wait (ackStep_none h)

/-- A command that has passed its phase check and consumed the phase, at its step `n`. -/
def phaseConsumed (n : Nat) (s : State) : State := { s with phase := .none, sstep := BitVec.ofNat 4 n }

/-- A command in its phase, with no answer at hand, consumes the phase and waits at its frame, which it makes from the
operand latches then. -/
theorem runSteps_command_waits {op : Byte} {need : Phase} {frame : State → List Byte} (h : s.answers = [])
    (hp : s.phase = need) :
    runSteps (phaseCheck op need :: regs (setPhase .none) :: (fun s => busWriteStep (frame s) id id s) :: fs) n s =
      offer (.write (frame (phaseConsumed (n + 2) s))) (phaseConsumed (n + 2) s) := by
  rw [runSteps_go (phaseCheck_pass hp), runSteps_regs]
  exact runSteps_wait (ackStep_none (s := phaseConsumed (n + 2) s) h)

/-- `SEARCH` with no answer at hand waits for its item, unless it is `next` with no enumeration open. -/
theorem runSteps_stepsSearch_waits {first : Bool} (h : s.answers = []) (hopen : first = true ∨ s.so = true) :
    runSteps (stepsSearch first) 1 s =
      { s with av := false, phase := .none, sstep := 3#4, reqPort := some (.searchNext first) } := by
  have hgo : ¬ (first = false ∧ s.so = false) := by
    rcases hopen with h | h <;> simp [h]
  rw [stepsSearch, runSteps_regs, runSteps_go (if_neg hgo)]
  exact runSteps_wait (ask_none h)

/-- Settles O9: each operation runs to its first request, which no answer meets. -/
theorem firstRequestWaitsAtItsStep : Obligations.FirstRequestWaitsAtItsStep := by
  intro s hs
  refine ⟨?_, fun a => ?_, ?_, fun hso => ?_, fun hp => ⟨?_, fun a => ?_, ?_⟩, fun hp => ⟨?_, fun th tl r => ?_, ?_⟩⟩
  · exact congrArg Host.Outcome.next (runSteps_ackStep_none hs)
  · exact congrArg Host.Outcome.next (runSteps_ackStep_none hs)
  · exact congrArg Host.Outcome.next (runSteps_stepsSearch_waits hs (.inl rfl))
  · exact congrArg Host.Outcome.next (runSteps_stepsSearch_waits hs (.inr hso))
  · exact congrArg Host.Outcome.next (runSteps_command_waits hs hp)
  · exact congrArg Host.Outcome.next (runSteps_command_waits (frame := fun s => 0x55#8 :: addrBytes s.opa) hs hp)
  · exact congrArg Host.Outcome.next (runSteps_command_waits hs hp)
  · exact congrArg Host.Outcome.next (runSteps_command_waits hs hp)
  · exact congrArg Host.Outcome.next (runSteps_command_waits (frame := fun s => 0x4E#8 :: writeBytes s.opw) hs hp)
  · exact congrArg Host.Outcome.next (runSteps_command_waits hs hp)

end Sys2Proof.Machine
end

section
/-! The three operations of the CRC8 unit (R85 to R87): they share the two steps that seed and feed the register, and then
report it or judge it. -/

namespace Sys2Proof.Machine

variable {fs : List MicroStep} {n : Nat} {s : State}

/-- The first two steps of the three operations leave `CRC` = `crc8(seed, data)` (R81) and the third step due. -/
theorem runOp_seed_feedCrc (op seed : Byte) (data : List Byte) :
    runOp op ((regs fun s => { s with crc := seed }) :: (regs fun s => feedCrc s.crc data s) :: fs) s =
      runSteps fs 3 { accept op s with crc := crc8 seed data, sstep := 3#4 } := by
  rw [runOp, runSteps_regs, runSteps_regs]
  rfl

/-- `CRC_CALC` and `CRC_CALC_INIT`, which differ only in code and seed, end with the checksum in `CRC` and `R` (R85, R86). -/
theorem runOp_seed_feedCrc_report (op seed : Byte) (data : List Byte) :
    runOp op
      [ regs fun s => { s with crc := seed },
        regs fun s => feedCrc s.crc data s,
        regs fun s => report .ok (setR s.crc s) ] s =
      { s with
        crc := crc8 seed data, r := (crc8 seed data).setWidth 32, status := .ok, info := 0x00#8,
        curOp := op, sstep := 0#4, busy := false, reqPort := none } := by
  rw [runOp_seed_feedCrc, runSteps_regs, runSteps_nil]
  rfl

/-- The last two steps of `CRC_CHECK` (R87 s4, s5) end it with the checksum in `INFO` either way: where the verdict is `OK`,
the checksum is the 0 that `OK` reports. -/
theorem runSteps_crcVerdict_succeed :
    runSteps [crcVerdict, succeed] n s = raise (if s.crc = 0x00#8 then .ok else .crcMismatch) s.crc s := by
  by_cases h : s.crc = 0x00#8
  · have hgo : crcVerdict s = .go s := if_pos h
    calc runSteps [crcVerdict, succeed] n s
      _ = raise .ok 0x00#8 s := runSteps_go hgo
      _ = raise .ok s.crc s := congrArg (raise .ok · s) h.symm
      _ = _ := by rw [if_pos h]
  · have hstop : crcVerdict s = .stop (raise .crcMismatch s.crc s) := if_neg h
    rw [runSteps_stop hstop, if_neg h]

/-- Settles O25: the register, seeded with 0 and fed the bytes, is reported. -/
theorem crcCalcGivesTheChecksum : Obligations.CrcCalcGivesTheChecksum := fun data _ =>
  ⟨rfl, congrArg Host.Outcome.next (runOp_seed_feedCrc_report 0x01#8 0x00#8 data)⟩

/-- Settles O26: the register, seeded with the operand and fed the bytes, is reported. -/
theorem crcCalcInitGivesTheSeededChecksum : Obligations.CrcCalcInitGivesTheSeededChecksum := fun seed data _ =>
  ⟨rfl, congrArg Host.Outcome.next (runOp_seed_feedCrc_report 0x02#8 seed data)⟩

/-- Settles O27: the register, seeded with 0 and fed the bytes, is copied to `R` and judged. -/
theorem crcCheckJudgesTheChecksum : Obligations.CrcCheckJudgesTheChecksum := by
  intro data s
  refine ⟨rfl, congrArg Host.Outcome.next ?_⟩
  rw [runOp_seed_feedCrc, runSteps_regs, runSteps_crcVerdict_succeed]
  rfl

end Sys2Proof.Machine
end

section
/-! The operation of the address unit (R92): one step, which reports a value of the operand latch. -/

namespace Sys2Proof.Machine

variable {w : Nat} {s : State}

/-- An operation of one step that reports a value in `R`: the value is that of the accepted state, and only `R`, the status
and the sequencer change. -/
theorem runOp_report_setR (op : Byte) (value : State → BitVec w) :
    runOp op [regs fun s => report .ok (setR (value s) s)] s =
      { s with
        r := (value (accept op s)).setWidth 32, status := .ok, info := 0x00#8,
        curOp := op, sstep := 0#4, busy := false, reqPort := none } := by
  rw [runOp, runSteps_regs, runSteps_nil]
  rfl

/-- The family code is the low byte of the address (R90). -/
theorem familyOf_eq_extractLsb' (a : Addr) : familyOf a = a.extractLsb' 0 8 := rfl

/-- Settles O29: the one step reports the family code of the latched address. -/
theorem familyCodeGivesByteZero : Obligations.FamilyCodeGivesByteZero := by
  intro a s
  refine ⟨rfl, congrArg Host.Outcome.next ?_⟩
  rw [runOp_report_setR, accept_opa, latchAddr_opa, familyOf_eq_extractLsb']
  rfl

end Sys2Proof.Machine
end

section
/-! Resolution operands and the configuration check in the spec's bit forms (R63, R65, R67 (b)). -/

namespace Sys2Proof

/-- The operand byte of a resolution is its code, zero-extended (R65). -/
theorem operandOfRes_eq_setWidth (res : Resolution) : operandOfRes res = (resCode res).setWidth 8 :=
  (BitVec.setWidth_eq_append (by decide)).symm

/-- The operand byte of a resolution has its reserved bits clear (R65). -/
theorem extractLsb'_operandOfRes (res : Resolution) : (operandOfRes res).extractLsb' 2 6 = 0#6 :=
  BitVec.extractLsb'_append_eq_left

/-- An operand byte with a reserved bit set names no resolution (R67 (b)). -/
theorem resOfOperand_eq_none {r : Byte} (h : r.extractLsb' 2 6 ≠ 0#6) : resOfOperand r = none := by
  cases hr : resOfOperand r with
  | none => rfl
  | some res =>
    rw [resOfOperand_some hr, extractLsb'_operandOfRes] at h
    exact absurd rfl h

/-- Format `HR` rejects a reserved operand bit (R67 (b)). -/
theorem parseHR_eq_illegal {op r : Byte} {mk : Resolution → Instr} (h : r.extractLsb' 2 6 ≠ 0#6) :
    parseHR op mk [r] = .illegal op := by
  simp only [parseHR, resOfOperand_eq_none h]

/-- Format `HW` rejects a reserved operand bit (R67 (b)). -/
theorem parseHW_eq_illegal {op th tl r : Byte} {mk : Byte → Byte → Resolution → Instr} (h : r.extractLsb' 2 6 ≠ 0#6) :
    parseHW op mk [th, tl, r] = .illegal op := by
  simp only [parseHW, resOfOperand_eq_none h]

end Sys2Proof

namespace Sys2Proof.Machine

/-- The configuration check is the mask test of R63. -/
theorem cfgValid_iff_mask {b : Byte} : cfgValid b = true ↔ (b &&& 0x9F#8) = 0x1F#8 := beq_iff_eq

variable {n : Nat} {s : State}

/-- The last steps of an operation that decodes a scratchpad image, on a valid byte 4: the decoded registers are loaded
(R104 s2 to s4, R120 s7 to s9). -/
theorem runSteps_cfgCheck_loadDecoded (h : (s.buf.b4 &&& 0x9F#8) = 0x1F#8) :
    runSteps [cfgCheckStep, regs loadDecoded, succeed] n s = raise .ok 0x00#8 (loadDecoded s) := by
  have hgo : cfgCheckStep s = .go s := if_pos (cfgValid_iff_mask.mpr h)
  rw [runSteps_go hgo, runSteps_regs, succeed, runSteps_regs, runSteps_nil]
  rfl

/-- The same steps on any other byte 4: it is raised, and nothing is loaded (R104 s2, R120 s7). -/
theorem runSteps_cfgCheck_raise (h : (s.buf.b4 &&& 0x9F#8) ≠ 0x1F#8) :
    runSteps [cfgCheckStep, regs loadDecoded, succeed] n s = raise .configRegister s.buf.b4 s := by
  have hstop : cfgCheckStep s = .stop (raise .configRegister s.buf.b4 s) := if_neg (mt cfgValid_iff_mask.mp h)
  rw [runSteps_stop hstop]

end Sys2Proof.Machine
end

section
/-! The five operations of the scratchpad decoder (R97, R98, R104, R105, R107). Three of them report one value, so
`runOp_report_setR` is their whole run; the other two turn on the configuration check. -/

namespace Sys2Proof.Machine

/-- Settles O31: by the configuration check, which comes before the only write to `R`. -/
theorem cfgDecodeAcceptsFourBytes : Obligations.CfgDecodeAcceptsFourBytes := by
  intro b s
  refine ⟨rfl, fun h => congrArg Host.Outcome.next ?valid, fun h => congrArg Host.Outcome.next ?invalid⟩
  case valid =>
    rw [runOp, runSteps_go (if_pos (cfgValid_iff_mask.mpr h)), runSteps_regs, runSteps_nil]
    rfl
  case invalid =>
    rw [runOp, runSteps_stop (if_neg (mt cfgValid_iff_mask.mp h))]
    rfl

/-- Settles O32: the one step reports the configuration byte. -/
theorem cfgEncodeGivesTheByte : Obligations.CfgEncodeGivesTheByte :=
  ⟨fun _ h => parseHR_eq_illegal h, fun res _ =>
    ⟨congrArg ([0x06#8, ·]) (operandOfRes_eq_setWidth res),
      congrArg Host.Outcome.next (runOp_report_setR 0x06#8 fun _ => cfgOf res)⟩⟩

/-- Settles O33: the first step fills `BUF` and clears `SPV`; the others decode `BUF`. -/
theorem spDecodeLoadsTheDecodedRegisters : Obligations.SpDecodeLoadsTheDecodedRegisters := by
  intro m s
  refine ⟨rfl, fun h => congrArg Host.Outcome.next ?valid, fun h => congrArg Host.Outcome.next ?invalid⟩
  case valid =>
    rw [runOp, runSteps_regs, runSteps_cfgCheck_loadDecoded h]
    rfl
  case invalid =>
    rw [runOp, runSteps_regs, runSteps_cfgCheck_raise h]
    rfl

/-- Settles O34: the one step reports the latched write image, packed. -/
theorem spEncodePacksTheWriteImage : Obligations.SpEncodePacksTheWriteImage := by
  refine ⟨fun _ _ _ h => parseHW_eq_illegal h, fun th tl res s =>
    ⟨congrArg ([0x08#8, th, tl, ·]) (operandOfRes_eq_setWidth res), congrArg Host.Outcome.next ?_⟩⟩
  rw [runOp_report_setR, accept_opw, latchWrite_opw, BitVec.setWidth_eq]
  rfl

/-- Settles O35: the one step reports the conversion time, which is one of four numbers (R99). -/
theorem convTimeHalvesPerStep : Obligations.ConvTimeHalvesPerStep := by
  refine ⟨fun _ h => parseHR_eq_illegal h, fun res s =>
    ⟨congrArg ([0x09#8, ·]) (operandOfRes_eq_setWidth res), congrArg Host.Outcome.next ?_⟩⟩
  rw [runOp_report_setR]
  cases res <;> rfl

end Sys2Proof.Machine
end

section
/-! A bus command whose request is answered: the runs of the shared phase check, frame, read and CRC check, given the
answers (R42, R43, R89, R147). They go on from `runSteps_command_waits`, where no answer is at hand. -/

namespace Sys2Proof.Machine

variable {op : Byte} {need : Phase} {fs : List MicroStep} {n : Nat} {s : State} {rest : List Answer} {e : TErr}

theorem runSteps_ackStep_ok {q : BusRequest} {before after onErr : State → State} (h : s.answers = .ok :: rest) :
    runSteps (ackStep q before after onErr :: fs) n s =
      runSteps fs (n + 1) { after (before (takeAnswer q .ok rest s)) with sstep := BitVec.ofNat 4 (n + 1) } :=
  runSteps_go (ackStep_ok h)

theorem runSteps_ackStep_err {q : BusRequest} {before after onErr : State → State} (h : s.answers = .err e :: rest) :
    runSteps (ackStep q before after onErr :: fs) n s =
      transportError e (onErr (before (takeAnswer q (.err e) rest s))) :=
  runSteps_stop (ackStep_err h)

/-! ## The command's entry and its frame -/

/-- A command in another phase than its own (R147). -/
theorem runSteps_phaseCheck_violates (hp : s.phase ≠ need) :
    runSteps (phaseCheck op need :: fs) n s = raise .protocolViolation op (setPhase .none s) :=
  runSteps_stop (phaseCheck_fail hp)

/-- A command in its phase consumes it (R24, D7). -/
theorem runSteps_phaseCheck_consumes (hp : s.phase = need) :
    runSteps (phaseCheck op need :: regs (setPhase .none) :: fs) n s =
      runSteps fs (n + 2) (phaseConsumed (n + 2) s) := by
  rw [runSteps_go (phaseCheck_pass hp), runSteps_regs]
  rfl

/-- A command in its phase whose frame is answered `OK` goes on after it. -/
theorem runSteps_command_ok {frame : State → List Byte} {w : List Byte} (hp : s.phase = need)
    (h : s.answers = .ok :: rest) (hw : frame (phaseConsumed (n + 2) s) = w) :
    runSteps (phaseCheck op need :: regs (setPhase .none) :: (fun s => busWriteStep (frame s) id id s) :: fs) n s =
      runSteps fs (n + 3) { s with
        phase := .none, answers := rest, bus := s.bus ++ [⟨.write w, .ok, w⟩], reqPort := none,
        sstep := BitVec.ofNat 4 (n + 3) } := by
  subst hw
  rw [runSteps_phaseCheck_consumes hp]
  exact runSteps_ackStep_ok (s := phaseConsumed (n + 2) s) h

/-- A command in its phase whose frame is answered `ERR(e)` ends there, with the phase consumed; how much of the frame was
sent is free (U2). -/
theorem runSteps_command_err {frame : State → List Byte} {w : List Byte} (hp : s.phase = need)
    (h : s.answers = .err e :: rest) (hw : frame (phaseConsumed (n + 2) s) = w) :
    runSteps (phaseCheck op need :: regs (setPhase .none) :: (fun s => busWriteStep (frame s) id id s) :: fs) n s =
      { s with
        phase := .none, terr := e, status := .transport, info := 0x00#8, answers := rest,
        bus := s.bus ++ [⟨.write w, .err e, w.take (Config.freeSentLength s.draws)⟩], draws := s.draws + 1,
        sstep := 0#4, busy := false, reqPort := none } := by
  subst hw
  rw [runSteps_phaseCheck_consumes hp]
  exact runSteps_ackStep_err (s := phaseConsumed (n + 2) s) h

/-! ## The read of an image and the CRC check over it -/

/-- A read of at most eight bytes keeps `BUF[8]` (R12, R111). -/
theorem fillImage_b8 {bs : List Byte} (h : bs.length ≤ 8) (m : Image9) : (fillImage bs m).b8 = m.b8 :=
  List.getD_eq_default bs m.b8 h

/-- A read raises `TRANSPORT` after `ERR(e)`; the bytes it asked for are free (U1). -/
theorem busReadStep_err (h : s.answers = .err e :: rest) :
    ∃ free : List Byte, free.length = n ∧ busReadStep n s =
      .stop (transportError e { takeAnswer (.read n) (.err e) rest s with buf := fillImage free s.buf }) := by
  refine ⟨freeBytes s.draws n, by simp [freeBytes], ?_⟩
  rw [busReadStep, ask_fits h (v := .error e) rfl]
  simp [drawsOf]

/-- The CRC check goes on where the buffer's checksum is 0 (R89). -/
theorem crcCheckStep_pass (h : crc8 0x00#8 (bufFront n s.buf) = 0x00#8) :
    crcCheckStep n s = .go { s with crc := 0x00#8 } := by
  obtain ⟨-, hgo⟩ | ⟨hcrc, -⟩ := crcCheckStep_cases n s
  · exact hgo
  · exact absurd h hcrc

/-- It raises any other checksum. -/
theorem crcCheckStep_fail (h : crc8 0x00#8 (bufFront n s.buf) ≠ 0x00#8) :
    crcCheckStep n s = .stop (raise .crcMismatch (crc8 0x00#8 (bufFront n s.buf))
      { s with crc := crc8 0x00#8 (bufFront n s.buf) }) := by
  obtain ⟨hcrc, -⟩ | ⟨-, hstop⟩ := crcCheckStep_cases n s
  · exact absurd hcrc h
  · exact hstop

/-- A read fills the front of the buffer with the bytes received, in their order (R12, R43). -/
theorem bufFront_fillImage {bs : List Byte} (h : bs.length ≤ 9) (m : Image9) :
    bufFront bs.length (fillImage bs m) = bs := by
  refine List.ext_getElem (by simpa [bufFront, imageBytes] using h) fun i _ hi => ?_
  have : i < 9 := hi.trans_le h
  interval_cases i <;> simp [bufFront, imageBytes, fillImage, hi]

/-- A bus operation that has received `bs` and fed it to the CRC register (R43, R89). -/
def received (bs : List Byte) (rest : List Answer) (s : State) : State :=
  { s with
    buf := fillImage bs s.buf, crc := crc8 0x00#8 bs, answers := rest,
    bus := s.bus ++ [⟨.read bs.length, .bytes bs, []⟩], reqPort := none }

/-- The read of an image and the CRC check over it, on bytes whose checksum is 0. -/
theorem runSteps_receive_pass {bs : List Byte} {k : Nat} (h : s.answers = .bytes bs :: rest) (hbs : bs.length = k)
    (hk : k ≤ 9) (hcrc : crc8 0x00#8 bs = 0x00#8) :
    runSteps (busReadStep k :: crcCheckStep k :: fs) n s =
      runSteps fs (n + 2) { received bs rest s with sstep := BitVec.ofNat 4 (n + 2) } := by
  subst hbs
  have hfront := bufFront_fillImage hk s.buf
  rw [runSteps_go (busReadStep_ok h rfl), runSteps_go (crcCheckStep_pass (by rwa [hfront])), received, hcrc]
  rfl

/-- The same on other bytes: the checksum is raised (R89). -/
theorem runSteps_receive_mismatch {bs : List Byte} {k : Nat} (h : s.answers = .bytes bs :: rest) (hbs : bs.length = k)
    (hk : k ≤ 9) (hcrc : crc8 0x00#8 bs ≠ 0x00#8) :
    runSteps (busReadStep k :: crcCheckStep k :: fs) n s =
      raise .crcMismatch (crc8 0x00#8 bs) (received bs rest s) := by
  subst hbs
  have hfront := bufFront_fillImage hk s.buf
  rw [runSteps_go (busReadStep_ok h rfl), runSteps_stop (crcCheckStep_fail (by rwa [hfront])), hfront]
  rfl

end Sys2Proof.Machine
end

section
/-! The bus reset and the selection commands (R110 to R113). -/

namespace Sys2Proof.Machine

variable {s : State} {rest : List Answer} {e : TErr}

/-- `BUS_RESET` that has cleared `SO` and comes to its request (R110 s2). -/
def busResetEntered (s : State) : State :=
  { s with so := false, busy := true, curOp := 0x00#8, sstep := 2#4, reqPort := none }

theorem runOp_stepsBusReset :
    runOp 0x00#8 stepsBusReset s =
      runSteps [ackStep .reset id id (setPhase .none), regs fun s => report .ok (setPhase .selection s)] 2
        (busResetEntered s) := rfl

/-- Settles O39: `SO` is cleared, and the answer to the one reset decides. -/
theorem busResetOpensTheSelectionPhase : Obligations.BusResetOpensTheSelectionPhase := by
  refine ⟨rfl, fun s rest => ⟨fun h => congrArg Host.Outcome.next ?ok, fun e h => congrArg Host.Outcome.next ?err⟩⟩
  case ok =>
    rw [runOp_stepsBusReset, runSteps_ackStep_ok (s := busResetEntered s) h, runSteps_regs, runSteps_nil]
    rfl
  case err =>
    rw [runOp_stepsBusReset, runSteps_ackStep_err (s := busResetEntered s) h]
    rfl

/-! ## `MATCH_ADDRESS` and `SKIP_ADDRESS` -/

/-- A selection command whose frame is answered `OK` opens the memory phase (R112 s4, R113 s4). -/
theorem runSteps_select_ok {op : Byte} {n : Nat} {frame : State → List Byte} {w : List Byte} (hp : s.phase = .selection)
    (h : s.answers = .ok :: rest) (hw : frame (phaseConsumed (n + 2) s) = w) :
    runSteps
      [ phaseCheck op .selection,
        regs (setPhase .none),
        fun s => busWriteStep (frame s) id id s,
        regs fun s => report .ok (setPhase .memory s) ] n s =
      { s with
        phase := .memory, status := .ok, info := 0x00#8, answers := rest, bus := s.bus ++ [⟨.write w, .ok, w⟩],
        sstep := 0#4, busy := false, reqPort := none } := by
  rw [runSteps_command_ok hp h hw, runSteps_regs, runSteps_nil]
  rfl

/-- Settles O41: the frame is made from the address latch, and its answer decides. -/
theorem matchAddressSendsNineBytes : Obligations.MatchAddressSendsNineBytes := by
  intro a s rest e
  refine ⟨rfl, fun hp h => congrArg Host.Outcome.next ?ok,
    fun hp h => ⟨Config.freeSentLength s.draws, s.draws + 1, congrArg Host.Outcome.next ?err⟩,
    fun hp => congrArg Host.Outcome.next ?violation⟩
  case ok =>
    exact runSteps_select_ok (s := accept 0x55#8 (latchAddr a s)) (frame := fun s => 0x55#8 :: addrBytes s.opa) hp h rfl
  case err =>
    exact runSteps_command_err (s := accept 0x55#8 (latchAddr a s)) (frame := fun s => 0x55#8 :: addrBytes s.opa) hp h rfl
  case violation => exact runSteps_phaseCheck_violates hp

/-- Settles O42: the answer to the one-byte frame decides. -/
theorem skipAddressOpensTheMemoryPhase : Obligations.SkipAddressOpensTheMemoryPhase := by
  refine ⟨rfl, fun s rest e => ⟨fun hp h => congrArg Host.Outcome.next ?ok,
    fun hp h => ⟨Config.freeSentLength s.draws, s.draws + 1, congrArg Host.Outcome.next ?err⟩,
    fun hp => congrArg Host.Outcome.next ?violation⟩⟩
  case ok => exact runSteps_select_ok (s := accept 0xCC#8 s) hp h rfl
  case err => exact runSteps_command_err (s := accept 0xCC#8 s) hp h rfl
  case violation => exact runSteps_phaseCheck_violates hp

/-! ## `READ_ADDRESS` -/

/-- `READ_ADDRESS` that has cleared `AV` and comes to its phase check (R111 s2). -/
def readAddressEntered (s : State) : State :=
  { s with av := false, busy := true, curOp := 0x33#8, sstep := 2#4, reqPort := none }

/-- `READ_ADDRESS` that has written its frame and comes to its read (R111 s5). -/
def readAddressSent (rest : List Answer) (s : State) : State :=
  { s with
    av := false, phase := .none, answers := rest, bus := s.bus ++ [⟨.write [0x33#8], .ok, [0x33#8]⟩],
    busy := true, curOp := 0x33#8, sstep := 5#4, reqPort := none }

/-- `READ_ADDRESS` in the selection phase, its frame answered `OK`, comes to its read. -/
theorem runOp_stepsReadAddress_sent (hp : s.phase = .selection) (h : s.answers = .ok :: rest) :
    runOp 0x33#8 stepsReadAddress s =
      runSteps
        [ busReadStep 8,
          crcCheckStep 8,
          regs fun s => { s with a := addrOfImage s.buf, av := true },
          succeed ] 5 (readAddressSent rest s) :=
  runSteps_command_ok (s := readAddressEntered s) hp h rfl

/-- With eight bytes as the second answer, whose checksum is 0, it loads the address (R111 s6 to s8). -/
theorem runOp_stepsReadAddress_pass {bs : List Byte} (hp : s.phase = .selection)
    (h : s.answers = .ok :: .bytes bs :: rest) (hbs : bs.length = 8) (hcrc : crc8 0x00#8 bs = 0x00#8) :
    runOp 0x33#8 stepsReadAddress s =
      raise .ok 0x00#8 { received bs rest (readAddressSent (.bytes bs :: rest) s) with
        a := addrOfImage (fillImage bs s.buf), av := true } := by
  rw [runOp_stepsReadAddress_sent hp h, runSteps_receive_pass (rest := rest) rfl hbs (by decide) hcrc, runSteps_regs,
    succeed, runSteps_regs, runSteps_nil]
  rfl

/-- With eight other bytes it raises their checksum (R111 s6). -/
theorem runOp_stepsReadAddress_mismatch {bs : List Byte} (hp : s.phase = .selection)
    (h : s.answers = .ok :: .bytes bs :: rest) (hbs : bs.length = 8) (hcrc : crc8 0x00#8 bs ≠ 0x00#8) :
    runOp 0x33#8 stepsReadAddress s =
      raise .crcMismatch (crc8 0x00#8 bs) (received bs rest (readAddressSent (.bytes bs :: rest) s)) := by
  rw [runOp_stepsReadAddress_sent hp h, runSteps_receive_mismatch (rest := rest) rfl hbs (by decide) hcrc]

/-- Settles O40: the phase check, the answer to the frame, the answer to the read and the CRC check decide in turn. -/
theorem readAddressReadsAndChecksEightBytes : Obligations.ReadAddressReadsAndChecksEightBytes := by
  refine ⟨rfl, fun s rest b0 b1 b2 b3 b4 b5 b6 b7 e => ⟨fun hp h hcrc => congrArg Host.Outcome.next ?pass,
    fun hp h hcrc => congrArg Host.Outcome.next ?mismatch,
    fun hp h => ⟨Config.freeSentLength s.draws, s.draws + 1, congrArg Host.Outcome.next ?writeError⟩,
    fun hp h => ?readError, fun hp => congrArg Host.Outcome.next ?violation⟩⟩
  case pass =>
    rw [List.append_cons, runOp_stepsReadAddress_pass hp h rfl hcrc, received, hcrc]
    rfl
  case mismatch =>
    rw [List.append_cons, runOp_stepsReadAddress_mismatch hp h rfl hcrc]
    rfl
  case writeError =>
    exact runSteps_command_err (s := readAddressEntered s) hp h rfl
  case readError =>
    obtain ⟨free, hfree, hstop⟩ :=
      busReadStep_err (n := 8) (s := readAddressSent (.err e :: rest) s) (rest := rest) (e := e) rfl
    refine ⟨fillImage free s.buf, s.draws + 8, fillImage_b8 hfree.le s.buf, congrArg Host.Outcome.next ?_⟩
    rw [List.append_cons, runOp_stepsReadAddress_sent hp h]
    exact runSteps_stop hstop
  case violation =>
    exact runSteps_phaseCheck_violates (s := readAddressEntered s) hp

end Sys2Proof.Machine
end

section
/-! The four stubs (R114, R123 to R125, R146). -/

namespace Sys2Proof.Machine

/-- The numbered steps that the four stubs share. -/
def stepsStub (op : Byte) (need : Phase) : List MicroStep := [phaseCheck op need, regs (setPhase .none), stub op]

variable {op : Byte} {need : Phase} {s : State}

/-- A stub in its phase consumes it and ends with `UNIMPLEMENTED` (R146). -/
theorem runOp_stepsStub_unimplemented (hp : s.phase = need) :
    runOp op (stepsStub op need) s = { s with
      phase := .none, status := .unimplemented, info := op, curOp := op, sstep := 0#4, busy := false, reqPort := none } :=
  runSteps_phaseCheck_consumes (s := accept op s) (fs := [stub op]) hp

/-- A stub in another phase ends as every command does there (R147). -/
theorem runOp_stepsStub_violates (hp : s.phase ≠ need) :
    runOp op (stepsStub op need) s = { s with
      phase := .none, status := .protocolViolation, info := op, curOp := op, sstep := 0#4, busy := false,
      reqPort := none } :=
  runSteps_phaseCheck_violates (s := accept op s) hp

/-- Settles O43: each stub's word is its code and its run that of `stepsStub`, which makes no request. -/
theorem stubsEndUnimplemented : Obligations.StubsEndUnimplemented := by
  intro i need code s h
  obtain ⟨hword, hrun⟩ : encode i = [code] ∧ exec i s = .next (runOp code (stepsStub code need) s) := by
    obtain ⟨rfl, rfl, rfl⟩ | ⟨rfl, rfl, rfl⟩ | ⟨rfl, rfl, rfl⟩ | ⟨rfl, rfl, rfl⟩ := h <;> exact ⟨rfl, rfl⟩
  rw [hrun]
  exact ⟨hword, fun hp => congrArg Host.Outcome.next (runOp_stepsStub_unimplemented hp),
    fun hp => congrArg Host.Outcome.next (runOp_stepsStub_violates hp)⟩

end Sys2Proof.Machine
end

section
/-! The scratchpad commands (R120, R121). `READ_SCRATCHPAD` shares its frame, read and CRC check with `READ_ADDRESS`, and its
decoding with `SP_DECODE`. -/

namespace Sys2Proof.Machine

variable {s : State} {rest : List Answer} {e : TErr}

/-! ## `READ_SCRATCHPAD` -/

/-- `READ_SCRATCHPAD` that has cleared `SPV` and comes to its phase check (R120 s2). -/
def readScratchpadEntered (s : State) : State :=
  { s with spv := false, busy := true, curOp := 0xBE#8, sstep := 2#4, reqPort := none }

/-- `READ_SCRATCHPAD` that has written its frame and comes to its read (R120 s5). -/
def readScratchpadSent (rest : List Answer) (s : State) : State :=
  { s with
    spv := false, phase := .none, answers := rest, bus := s.bus ++ [⟨.write [0xBE#8], .ok, [0xBE#8]⟩],
    busy := true, curOp := 0xBE#8, sstep := 5#4, reqPort := none }

/-- `READ_SCRATCHPAD` in the memory phase, its frame answered `OK`, comes to its read. -/
theorem runOp_stepsReadScratchpad_sent (hp : s.phase = .memory) (h : s.answers = .ok :: rest) :
    runOp 0xBE#8 stepsReadScratchpad s =
      runSteps [busReadStep 9, crcCheckStep 9, cfgCheckStep, regs loadDecoded, succeed] 5 (readScratchpadSent rest s) :=
  runSteps_command_ok (s := readScratchpadEntered s) hp h rfl

/-- With nine bytes as the second answer, whose checksum is 0, it comes to the configuration check (R120 s7). -/
theorem runOp_stepsReadScratchpad_pass {bs : List Byte} (hp : s.phase = .memory)
    (h : s.answers = .ok :: .bytes bs :: rest) (hbs : bs.length = 9) (hcrc : crc8 0x00#8 bs = 0x00#8) :
    runOp 0xBE#8 stepsReadScratchpad s =
      runSteps [cfgCheckStep, regs loadDecoded, succeed] 7
        { received bs rest (readScratchpadSent (.bytes bs :: rest) s) with sstep := 7#4 } := by
  rw [runOp_stepsReadScratchpad_sent hp h, runSteps_receive_pass (rest := rest) rfl hbs le_rfl hcrc]

/-- Settles O44: the phase check, the answer to the frame, the answer to the read, the CRC check and the configuration check
decide in turn. -/
theorem readScratchpadReadsChecksAndDecodes : Obligations.ReadScratchpadReadsChecksAndDecodes := by
  refine ⟨rfl, fun s rest b0 b1 b2 b3 b4 b5 b6 b7 b8 e => ⟨fun hp h hcrc hcfg => congrArg Host.Outcome.next ?valid,
    fun hp h hcrc => congrArg Host.Outcome.next ?mismatch,
    fun hp h hcrc hcfg => congrArg Host.Outcome.next ?invalid,
    fun hp h => ⟨Config.freeSentLength s.draws, s.draws + 1, congrArg Host.Outcome.next ?writeError⟩,
    fun hp h => ?readError, fun hp => congrArg Host.Outcome.next ?violation⟩⟩
  case valid =>
    rw [List.append_cons, runOp_stepsReadScratchpad_pass hp h rfl hcrc, runSteps_cfgCheck_loadDecoded hcfg, received, hcrc]
    rfl
  case mismatch =>
    rw [List.append_cons, runOp_stepsReadScratchpad_sent hp h]
    exact runSteps_receive_mismatch (k := 9) rfl rfl le_rfl hcrc
  case invalid =>
    rw [List.append_cons, runOp_stepsReadScratchpad_pass hp h rfl hcrc, runSteps_cfgCheck_raise hcfg, received, hcrc]
    rfl
  case writeError =>
    exact runSteps_command_err (s := readScratchpadEntered s) hp h rfl
  case readError =>
    obtain ⟨free, -, hstop⟩ :=
      busReadStep_err (n := 9) (s := readScratchpadSent (.err e :: rest) s) (rest := rest) (e := e) rfl
    refine ⟨fillImage free s.buf, s.draws + 9, congrArg Host.Outcome.next ?_⟩
    rw [List.append_cons, runOp_stepsReadScratchpad_sent hp h]
    exact runSteps_stop hstop
  case violation =>
    exact runSteps_phaseCheck_violates (s := readScratchpadEntered s) hp

/-! ## `WRITE_SCRATCHPAD` -/

/-- The step that reports `OK`, as an operation's last, ends it. -/
theorem runSteps_succeed {n : Nat} : runSteps [succeed] n s = raise .ok 0x00#8 s := by
  rw [succeed, runSteps_regs, runSteps_nil]
  rfl

/-- `WRITE_SCRATCHPAD` accepted, with its operands in the write latches (R30, R121 s1). -/
def writeScratchpadEntered (th tl : Byte) (res : Resolution) (s : State) : State :=
  accept 0x4E#8 (latchWrite (writeImage th tl res) s)

/-- Settles O45: the frame is made from the write latches, and its answer decides. -/
theorem writeScratchpadSendsFourBytes : Obligations.WriteScratchpadSendsFourBytes := by
  refine ⟨fun _ _ _ h => parseHW_eq_illegal h, fun th tl res s rest e =>
    ⟨congrArg ([0x4E#8, th, tl, ·]) (operandOfRes_eq_setWidth res), fun hp h => congrArg Host.Outcome.next ?ok,
      fun hp h => ⟨Config.freeSentLength s.draws, s.draws + 1, congrArg Host.Outcome.next ?err⟩,
      fun hp => congrArg Host.Outcome.next ?violation⟩⟩
  case ok =>
    exact (runSteps_command_ok (s := writeScratchpadEntered th tl res s)
      (frame := fun s => 0x4E#8 :: writeBytes s.opw) hp h rfl).trans runSteps_succeed
  case err =>
    exact runSteps_command_err (s := writeScratchpadEntered th tl res s)
      (frame := fun s => 0x4E#8 :: writeBytes s.opw) hp h rfl
  case violation =>
    exact runSteps_phaseCheck_violates (s := writeScratchpadEntered th tl res s) hp

end Sys2Proof.Machine
end

section
/-! `SEARCH` (R130): its open check, its one item and its family check decide in turn. -/

namespace Sys2Proof.Machine

variable {s : State} {first : Bool} {rest : List Answer} {a : Addr} {e : TErr}

/-! ## Each way the steps s2 to s4 go -/

theorem searchOpenCheck_pass (h : first = true ∨ s.so = true) : searchOpenCheck first s = .go s := by
  obtain h | h := h <;> simp [searchOpenCheck, h]

theorem searchOpenCheck_stop (hnext : first = false) (hclosed : s.so = false) :
    searchOpenCheck first s = .stop (endOp (report .searchEnd s)) :=
  if_pos ⟨hnext, hclosed⟩

theorem searchItemStep_item (h : s.answers = .item a :: rest) :
    searchItemStep first s = .go { takeAnswer (.searchNext first) (.item a) rest s with so := true, a := a } := by
  unfold searchItemStep
  rw [ask_fits h (v := some (.ok a)) rfl]

theorem searchItemStep_itemErr (h : s.answers = .itemErr e :: rest) :
    searchItemStep first s =
      .stop (transportError e { takeAnswer (.searchNext first) (.itemErr e) rest s with so := true }) := by
  unfold searchItemStep
  rw [ask_fits h (v := some (.error e)) rfl]

theorem searchItemStep_noMore (h : s.answers = .noMore :: rest) :
    searchItemStep first s =
      .stop (endOp (report .searchEnd { takeAnswer (.searchNext first) .noMore rest s with so := false })) := by
  unfold searchItemStep
  rw [ask_fits h (v := none) rfl]

theorem searchFamilyCheck_pass (h : familyOf s.a = 0x28#8) : searchFamilyCheck s = .go s :=
  if_pos (beq_iff_eq.mpr h)

theorem searchFamilyCheck_fail (h : familyOf s.a ≠ 0x28#8) :
    searchFamilyCheck s = .stop (raise .familyCode (familyOf s.a) s) :=
  if_neg (mt beq_iff_eq.mp h)

/-! ## The operation up to its item and up to its family check -/

/-- `SEARCH` that has cleared `AV` and `PHASE` and stands at its step `n` (R130 s1). -/
def searchEntered (n : Nat) (s : State) : State :=
  { s with
    av := false, phase := .none, busy := true, curOp := 0xF0#8, sstep := BitVec.ofNat 4 n, reqPort := none }

theorem runOp_stepsSearch :
    runOp 0xF0#8 (stepsSearch first) s =
      runSteps
        [ searchOpenCheck first,
          searchItemStep first,
          searchFamilyCheck,
          regs fun s => report .ok { s with av := true } ] 2 (searchEntered 2 s) := rfl

/-- `SEARCH first`, or `next` with an enumeration open, comes to its item. -/
theorem runOp_stepsSearch_open (h : first = true ∨ s.so = true) :
    runOp 0xF0#8 (stepsSearch first) s =
      runSteps [searchItemStep first, searchFamilyCheck, regs fun s => report .ok { s with av := true }] 3
        (searchEntered 3 s) := by
  rw [runOp_stepsSearch, runSteps_go (searchOpenCheck_pass (s := searchEntered 2 s) h)]
  rfl

/-- `SEARCH` that has taken an item of the enumeration and comes to its family check (R130 s4). -/
def searchFound (first : Bool) (a : Addr) (rest : List Answer) (s : State) : State :=
  { searchEntered 4 s with
    a := a, so := true, answers := rest, bus := s.bus ++ [⟨.searchNext first, .item a, []⟩] }

/-- With an item as the answer it comes to its family check. -/
theorem runOp_stepsSearch_item (hopen : first = true ∨ s.so = true) (h : s.answers = .item a :: rest) :
    runOp 0xF0#8 (stepsSearch first) s =
      runSteps [searchFamilyCheck, regs fun s => report .ok { s with av := true }] 4 (searchFound first a rest s) := by
  rw [runOp_stepsSearch_open hopen]
  exact runSteps_go (searchItemStep_item (s := searchEntered 3 s) h)

/-- Settles O47: the open check, the answer to the one request and the family check decide in turn. -/
theorem searchTakesOneItem : Obligations.SearchTakesOneItem := by
  intro first s rest a e
  refine ⟨rfl, fun hopen => ⟨fun h hfam => congrArg Host.Outcome.next ?item,
    fun h hfam => congrArg Host.Outcome.next ?foreign, fun h => congrArg Host.Outcome.next ?failed,
    fun h => congrArg Host.Outcome.next ?noMore⟩, fun hnext hclosed => congrArg Host.Outcome.next ?closed⟩
  case item =>
    rw [runOp_stepsSearch_item hopen h, runSteps_go (searchFamilyCheck_pass (s := searchFound first a rest s) hfam), runSteps_regs, runSteps_nil]
    rfl
  case foreign =>
    rw [runOp_stepsSearch_item hopen h]
    exact runSteps_stop (searchFamilyCheck_fail (s := searchFound first a rest s) hfam)
  case failed =>
    rw [runOp_stepsSearch_open hopen]
    exact runSteps_stop (searchItemStep_itemErr (s := searchEntered 3 s) h)
  case noMore =>
    rw [runOp_stepsSearch_open hopen]
    exact runSteps_stop (searchItemStep_noMore (s := searchEntered 3 s) h)
  case closed =>
    rw [runOp_stepsSearch]
    exact runSteps_stop (searchOpenCheck_stop (s := searchEntered 2 s) hnext hclosed)

end Sys2Proof.Machine
end

section
/-! The words the decoder rejects (R67), and the one step that takes such a word (R148). -/

namespace Sys2Proof

/-- The 22 operation codes, in the order of R66. -/
def operationCodes : List Byte :=
  [0x00#8, 0x01#8, 0x02#8, 0x03#8, 0x04#8, 0x05#8, 0x06#8, 0x07#8, 0x08#8, 0x09#8, 0x0A#8, 0x33#8, 0x55#8, 0xCC#8,
    0xEC#8, 0xF0#8, 0xBE#8, 0x4E#8, 0x44#8, 0xB8#8, 0x48#8, 0xB4#8]

/-- A word whose byte 0 is no operation code is illegal, whatever follows it (R67 (a)). -/
theorem decode_eq_illegal_of_notMem {op : Byte} (h : op ∉ operationCodes) (operands : List Byte) :
    decode (op :: operands) = .illegal op := by
  simp only [operationCodes, List.mem_cons, not_or] at h
  simp only [decode, h, if_false]

/-- Format `HF` rejects a reserved operand bit (R67 (b)). -/
theorem parseHF_eq_illegal {op f : Byte} {mk : Bool → Instr} (h : f.extractLsb' 1 7 ≠ 0#7) :
    parseHF op mk [f] = .illegal op := by
  have hnext : f ≠ 0#8 := fun hf => h (hf ▸ by decide)
  have hfirst : f ≠ 1#8 := fun hf => h (hf ▸ by decide)
  simp only [parseHF, if_neg hnext, if_neg hfirst]

end Sys2Proof

namespace Sys2Proof.Machine

variable {s : State} {op : Byte} {w : List Byte} {rest : List (List Byte)}

/-- An idle block with an illegal word at its port takes it (R148). -/
theorem step_of_decode_illegal (hb : s.busy = false) (hops : s.hostOps = w :: rest) (hw : decode w = .illegal op) :
    step s = .next (takeIllegal op { s with hostOps := rest }) := by
  simp [step, fetch, hb, hops, hw]

/-- Of an idle block, taking an illegal word writes `STATUS` and `INFO` alone: the operation it ends has not begun. -/
theorem takeIllegal_of_idle (hb : s.busy = false) (hn : s.sstep = 0#4) :
    takeIllegal op s = { s with status := .illegalOperation, info := op } := by
  simp only [takeIllegal, raise, ← hb, ← hn]

/-- Settles O4: the decoder rejects each such word, by its code or by its format's reserved bits, and an idle block takes
what the decoder rejects. -/
theorem illegalWordChangesOnlyStatusAndInfo : Obligations.IllegalWordChangesOnlyStatusAndInfo := by
  intro s op operands rest hb hn hops hword
  have hdecode : decode (op :: operands) = .illegal op := by
    obtain hcode | ⟨hop, r, rfl, hr⟩ | ⟨hop, th, tl, r, rfl, hr⟩ | ⟨rfl, f, rfl, hf⟩ := hword
    · exact decode_eq_illegal_of_notMem hcode operands
    · obtain rfl | rfl := List.mem_pair.mp hop <;> exact parseHR_eq_illegal hr
    · obtain rfl | rfl := List.mem_pair.mp hop <;> exact parseHW_eq_illegal hr
    · exact parseHF_eq_illegal hf
  calc step s
    _ = .next (takeIllegal op { s with hostOps := rest }) := step_of_decode_illegal hb hops hdecode
    _ = .next { s with hostOps := rest, status := .illegalOperation, info := op } :=
      congrArg Host.Outcome.next (takeIllegal_of_idle (s := { s with hostOps := rest }) hb hn)

end Sys2Proof.Machine
end

section
/-! The block's reset (R160): each control register's value is a field of the reset state, but for `FLAGS`, which is read off
four of them. -/

namespace Sys2Proof.Machine

/-- `FLAGS` reads 0 exactly when the block is idle, no enumeration is open and neither valid flag is set (R32). -/
theorem flagsOf_eq_zero_iff {s : State} :
    flagsOf s = 0b0000#4 ↔ s.so = false ∧ s.spv = false ∧ s.av = false ∧ s.busy = false := by
  have hconcat : ∀ so spv av busy : Bool,
      BitVec.ofBool so ++ BitVec.ofBool spv ++ BitVec.ofBool av ++ BitVec.ofBool busy = 0b0000#4 ↔
        so = false ∧ spv = false ∧ av = false ∧ busy = false := by decide
  exact hconcat s.so s.spv s.av s.busy

/-- Settles O10: the reset state names each value, and clears each of the four flags that `FLAGS` shows. -/
theorem resetLeavesControlRegistersCleared : Obligations.ResetLeavesControlRegistersCleared := by
  have hflags : flagsOf State.reset = 0b0000#4 := flagsOf_eq_zero_iff.mpr ⟨rfl, rfl, rfl, rfl⟩
  exact ⟨rfl, hflags, rfl, rfl, rfl, rfl⟩

end Sys2Proof.Machine
end

section
/-! The decoder against the encoder (30_encoding.md R65, R66, R68): what each format's parser accepts, and then the 22
operations by their codes. -/

namespace Sys2Proof

/-! ## What each format's parser reads back -/

/-- Format `HA` reads back the bytes of an address. -/
@[simp] theorem parseHA_addrBytes (mk : Addr → Instr) (a : Addr) : parseHA mk (addrBytes a) = .ok (mk a) := by
  simp only [parseHA, addrBytes, addrOfBytes_addrByte]

/-- Format `HR` reads back a resolution operand. -/
@[simp] theorem parseHR_operandOfRes (op : Byte) (mk : Resolution → Instr) (res : Resolution) :
    parseHR op mk [operandOfRes res] = .ok (mk res) := by
  simp only [parseHR, resOfOperand_operandOfRes]

/-- Format `HW` reads back two bytes and a resolution operand. -/
@[simp] theorem parseHW_operandOfRes (op : Byte) (mk : Byte → Byte → Resolution → Instr) (th tl : Byte) (res : Resolution) :
    parseHW op mk [th, tl, operandOfRes res] = .ok (mk th tl res) := by
  simp only [parseHW, resOfOperand_operandOfRes]

/-- Format `HS` reads back a byte sequence behind its length. -/
theorem parseHS_length {data : List Byte} (mk : List Byte → Instr) (h : dataFits data = true) :
    parseHS mk (BitVec.ofNat 8 data.length :: data) = .ok (mk data) :=
  if_pos (length_ofNat h).symm

/-- Format `HI` reads back a seed and a byte sequence behind its length. -/
theorem parseHI_length {data : List Byte} (mk : Byte → List Byte → Instr) (seed : Byte) (h : dataFits data = true) :
    parseHI mk (seed :: BitVec.ofNat 8 data.length :: data) = .ok (mk seed data) :=
  if_pos (length_ofNat h).symm

/-- Format `HF` reads back the restart flag. -/
@[simp] theorem parseHF_flag (op : Byte) (mk : Bool → Instr) (first : Bool) :
    parseHF op mk [if first then 1#8 else 0#8] = .ok (mk first) := by
  cases first <;> rfl

/-- Settles O1: the code selects the format, and the format's parser reads the operands back. -/
theorem decodeOfEncodeGivesOperation : Obligations.DecodeOfEncodeGivesOperation := by
  intro i hwf
  cases i with
  | busReset => rfl
  | crcCalc data => exact parseHS_length .crcCalc hwf
  | crcCalcInit seed data => exact parseHI_length .crcCalcInit seed hwf
  | crcCheck data => exact parseHS_length .crcCheck hwf
  | familyCode a => exact parseHA_addrBytes .familyCode a
  | cfgDecode b => rfl
  | cfgEncode res => exact parseHR_operandOfRes 0x06#8 .cfgEncode res
  | spDecode img => rfl
  | spEncode th tl res => exact parseHW_operandOfRes 0x08#8 .spEncode th tl res
  | convTime res => exact parseHR_operandOfRes 0x09#8 .convTime res
  | temperature a => exact parseHA_addrBytes .temperature a
  | readAddress => rfl
  | matchAddress a => exact parseHA_addrBytes .matchAddress a
  | skipAddress => rfl
  | searchAlarm => rfl
  | search first => exact parseHF_flag 0xF0#8 .search first
  | readScratchpad => rfl
  | writeScratchpad th tl res => exact parseHW_operandOfRes 0x4E#8 .writeScratchpad th tl res
  | convertTemperature => rfl
  | loadScratchpad => rfl
  | saveScratchpad => rfl
  | readPowerSupply => rfl

/-! ## What each format's parser accepts -/

theorem parseH0_eq_ok {i j : Instr} {w : List Byte} (h : parseH0 j w = .ok i) : i = j ∧ w = [] := by
  unfold parseH0 at h
  split at h <;> cases h
  exact ⟨rfl, rfl⟩

theorem parseHA_eq_ok {mk : Addr → Instr} {i : Instr} {w : List Byte} (h : parseHA mk w = .ok i) :
    ∃ a, i = mk a ∧ w = addrBytes a := by
  unfold parseHA at h
  split at h <;> cases h
  exact ⟨_, rfl, (addrBytes_addrOfBytes ..).symm⟩

theorem parseHB_eq_ok {mk : Byte → Instr} {i : Instr} {w : List Byte} (h : parseHB mk w = .ok i) :
    ∃ b, i = mk b ∧ w = [b] := by
  unfold parseHB at h
  split at h <;> cases h
  exact ⟨_, rfl, rfl⟩

theorem parseHR_eq_ok {op : Byte} {mk : Resolution → Instr} {i : Instr} {w : List Byte} (h : parseHR op mk w = .ok i) :
    ∃ res, i = mk res ∧ w = [operandOfRes res] := by
  unfold parseHR at h
  split at h
  · split at h <;> cases h
    rename_i hres
    exact ⟨_, rfl, by rw [resOfOperand_some hres]⟩
  · cases h

theorem parseHW_eq_ok {op : Byte} {mk : Byte → Byte → Resolution → Instr} {i : Instr} {w : List Byte}
    (h : parseHW op mk w = .ok i) : ∃ th tl res, i = mk th tl res ∧ w = [th, tl, operandOfRes res] := by
  unfold parseHW at h
  split at h
  · split at h <;> cases h
    rename_i hres
    exact ⟨_, _, _, rfl, by rw [resOfOperand_some hres]⟩
  · cases h

theorem parseH9_eq_ok {mk : Image9 → Instr} {i : Instr} {w : List Byte} (h : parseH9 mk w = .ok i) :
    ∃ m, i = mk m ∧ w = imageBytes m := by
  unfold parseH9 at h
  split at h <;> cases h
  exact ⟨_, rfl, rfl⟩

theorem parseHF_eq_ok {op : Byte} {mk : Bool → Instr} {i : Instr} {w : List Byte} (h : parseHF op mk w = .ok i) :
    ∃ first : Bool, i = mk first ∧ w = [if first then 1#8 else 0#8] := by
  unfold parseHF at h
  split at h
  · split_ifs at h with hnext hfirst <;> cases h
    · exact ⟨false, rfl, by rw [hnext]; rfl⟩
    · exact ⟨true, rfl, by rw [hfirst]; rfl⟩
  · cases h

/-- A byte sequence whose length is its length byte fits, and the byte is that of its length. -/
theorem dataFits_of_length {n : Byte} {data : List Byte} (h : data.length = n.toNat) :
    dataFits data = true ∧ n = BitVec.ofNat 8 data.length := by
  refine ⟨decide_eq_true ?_, by simp [h]⟩
  have := n.isLt
  omega

theorem parseHS_eq_ok {mk : List Byte → Instr} {i : Instr} {w : List Byte} (h : parseHS mk w = .ok i) :
    ∃ data, i = mk data ∧ dataFits data = true ∧ w = BitVec.ofNat 8 data.length :: data := by
  unfold parseHS at h
  split at h
  · split_ifs at h with hlen
    cases h
    obtain ⟨hfits, hn⟩ := dataFits_of_length hlen
    exact ⟨_, rfl, hfits, by rw [← hn]⟩
  · cases h

theorem parseHI_eq_ok {mk : Byte → List Byte → Instr} {i : Instr} {w : List Byte} (h : parseHI mk w = .ok i) :
    ∃ seed data, i = mk seed data ∧ dataFits data = true ∧ w = seed :: BitVec.ofNat 8 data.length :: data := by
  unfold parseHI at h
  split at h
  · split_ifs at h with hlen
    cases h
    obtain ⟨hfits, hn⟩ := dataFits_of_length hlen
    exact ⟨_, _, rfl, hfits, by rw [← hn]⟩
  · cases h

/-- Settles O2: byte 0 is one of the 22 codes, and the code's parser accepts only the operand bytes of an operation. -/
theorem decodedWordIsItsEncoding : Obligations.DecodedWordIsItsEncoding := by
  intro w i h
  obtain _ | ⟨op, operands⟩ := w
  · cases h
  have hop : op ∈ operationCodes := by
    by_contra hop
    rw [decode_eq_illegal_of_notMem hop] at h
    cases h
  simp only [operationCodes, List.mem_cons, List.not_mem_nil, or_false] at hop
  obtain rfl | rfl | rfl | rfl | rfl | rfl | rfl | rfl | rfl | rfl | rfl | rfl | rfl | rfl | rfl | rfl | rfl | rfl | rfl |
    rfl | rfl | rfl := hop
  · obtain ⟨rfl, rfl⟩ := parseH0_eq_ok h; exact ⟨rfl, rfl⟩
  · obtain ⟨data, rfl, hfits, rfl⟩ := parseHS_eq_ok h; exact ⟨hfits, rfl⟩
  · obtain ⟨seed, data, rfl, hfits, rfl⟩ := parseHI_eq_ok h; exact ⟨hfits, rfl⟩
  · obtain ⟨data, rfl, hfits, rfl⟩ := parseHS_eq_ok h; exact ⟨hfits, rfl⟩
  · obtain ⟨a, rfl, rfl⟩ := parseHA_eq_ok h; exact ⟨rfl, rfl⟩
  · obtain ⟨b, rfl, rfl⟩ := parseHB_eq_ok h; exact ⟨rfl, rfl⟩
  · obtain ⟨res, rfl, rfl⟩ := parseHR_eq_ok h; exact ⟨rfl, rfl⟩
  · obtain ⟨m, rfl, rfl⟩ := parseH9_eq_ok h; exact ⟨rfl, rfl⟩
  · obtain ⟨th, tl, res, rfl, rfl⟩ := parseHW_eq_ok h; exact ⟨rfl, rfl⟩
  · obtain ⟨res, rfl, rfl⟩ := parseHR_eq_ok h; exact ⟨rfl, rfl⟩
  · obtain ⟨a, rfl, rfl⟩ := parseHA_eq_ok h; exact ⟨rfl, rfl⟩
  · obtain ⟨rfl, rfl⟩ := parseH0_eq_ok h; exact ⟨rfl, rfl⟩
  · obtain ⟨a, rfl, rfl⟩ := parseHA_eq_ok h; exact ⟨rfl, rfl⟩
  · obtain ⟨rfl, rfl⟩ := parseH0_eq_ok h; exact ⟨rfl, rfl⟩
  · obtain ⟨rfl, rfl⟩ := parseH0_eq_ok h; exact ⟨rfl, rfl⟩
  · obtain ⟨first, rfl, rfl⟩ := parseHF_eq_ok h; exact ⟨rfl, rfl⟩
  · obtain ⟨rfl, rfl⟩ := parseH0_eq_ok h; exact ⟨rfl, rfl⟩
  · obtain ⟨th, tl, res, rfl, rfl⟩ := parseHW_eq_ok h; exact ⟨rfl, rfl⟩
  · obtain ⟨rfl, rfl⟩ := parseH0_eq_ok h; exact ⟨rfl, rfl⟩
  · obtain ⟨rfl, rfl⟩ := parseH0_eq_ok h; exact ⟨rfl, rfl⟩
  · obtain ⟨rfl, rfl⟩ := parseH0_eq_ok h; exact ⟨rfl, rfl⟩
  · obtain ⟨rfl, rfl⟩ := parseH0_eq_ok h; exact ⟨rfl, rfl⟩

/-- Settles O3: each word is closed, so the decoder runs on it. -/
theorem wordsOfTheFormatsDecode : Obligations.WordsOfTheFormatsDecode := by
  unfold Obligations.WordsOfTheFormatsDecode
  decide

end Sys2Proof
end

section
/-! The laws of the checksum (40_crc8.md R80, R84, R88), from the byte step's linearity and from its being one to one. -/

namespace Sys2Proof.Machine

/-! ## The bit-serial form of the byte step -/

/-- The shifts of a register may be counted from either end. -/
theorem crcShifts_succ (n : Nat) (c : Byte) : crcShifts (n + 1) c = crcShift (crcShifts n c) := by
  induction n generalizing c with
  | zero => rfl
  | succ n ih => exact ih (crcShift c)

/-- One step of the bit-serial form: bit `i` of the byte is mixed with the bit shifted out (R80). -/
def serialShift (b x : Byte) (i : Nat) : Byte :=
  if (x.getLsbD 0 ^^ b.getLsbD i) then (x >>> 1) ^^^ 0x8C#8 else x >>> 1

/-- The bit-serial register lags behind the byte step's by the bits that have not entered it yet. -/
theorem serialShift_xor_ushiftRight (b y : Byte) (n : Nat) :
    serialShift b (y ^^^ b >>> n) n = crcShift y ^^^ b >>> (n + 1) := by
  have hbit : ((y ^^^ b >>> n).getLsbD 0 ^^ b.getLsbD n) = y.getLsbD 0 := by simp
  have hshift : (y ^^^ b >>> n) >>> 1 = y >>> 1 ^^^ b >>> (n + 1) := by
    rw [BitVec.ushiftRight_xor_distrib, ← BitVec.shiftRight_add]
  simp only [serialShift, hbit, hshift, crcShift, Config.crcMask]
  split
  · ac_rfl
  · rfl

theorem foldl_serialShift (b c : Byte) (n : Nat) :
    (List.range n).foldl (serialShift b) c = crcShifts n (c ^^^ b) ^^^ b >>> n := by
  induction n with
  | zero => simp [crcShifts]
  | succ n ih =>
    rw [List.range_succ, List.foldl_append, ih, crcShifts_succ]
    exact serialShift_xor_ushiftRight b _ n

/-- Settles O22: after eight bits none of the byte is left to enter. -/
theorem byteStepIsTheBitSerialForm : Obligations.ByteStepIsTheBitSerialForm := by
  intro c b
  have hnone : b >>> 8 = 0#8 := BitVec.ushiftRight_eq_zero le_rfl
  calc byteStep c b
    _ = crcShifts 8 (c ^^^ b) ^^^ b >>> 8 := by rw [hnone, BitVec.xor_zero, byteStep]
    _ = _ := (foldl_serialShift b c 8).symm

/-! ## The laws of R84 -/

theorem crc8_append (seed : Byte) (d e : List Byte) : crc8 seed (d ++ e) = crc8 (crc8 seed d) e := by
  induction d generalizing seed with
  | nil => rfl
  | cons b d ih => exact ih (byteStep seed b)

/-- The last byte of a frame makes its checksum 0 exactly when it is the checksum of the others. -/
theorem byteStep_eq_zero_iff {c b : Byte} : byteStep c b = 0x00#8 ↔ b = c := by
  rw [byteStep_eq_xor, byteStep_zero_iff, BitVec.xor_eq_zero_iff, eq_comm]

theorem crc8_append_singleton_eq_zero_iff {seed r : Byte} {d : List Byte} :
    crc8 seed (d ++ [r]) = 0x00#8 ↔ r = crc8 seed d := by
  rw [crc8_append, crc8_cons, crc8_nil, byteStep_eq_zero_iff]

theorem crc8_replicate_zero (n : Nat) : crc8 0x00#8 (List.replicate n 0x00#8) = 0x00#8 := by
  induction n with
  | zero => rfl
  | succ n ih => rwa [List.replicate_succ, crc8_cons, byteStep_eq_zero_iff.mpr rfl]

/-- The byte step is one to one in the register and in the byte: their exclusive-or can be read off it. -/
theorem byteStep_eq_iff {c d b e : Byte} : byteStep c b = byteStep d e ↔ c ^^^ b = d ^^^ e := by
  rw [← BitVec.xor_eq_zero_iff, ← byteStep_xor, byteStep_eq_xor, byteStep_zero_iff, xor_pairs, BitVec.xor_eq_zero_iff]

/-- Two registers that differ still differ after the same bytes. -/
theorem crc8_injective (e : List Byte) {c d : Byte} (h : crc8 c e = crc8 d e) : c = d := by
  induction e generalizing c d with
  | nil => exact h
  | cons b e ih => exact BitVec.xor_left_inj b |>.mp (byteStep_eq_iff.mp (ih h))

theorem crc8_zipWith_xor (c c' : Byte) {d e : List Byte} (h : d.length = e.length) :
    crc8 (c ^^^ c') (List.zipWith (· ^^^ ·) d e) = crc8 c d ^^^ crc8 c' e := by
  induction d generalizing c c' e with
  | nil => rw [List.length_eq_zero_iff.mp h.symm]; rfl
  | cons b d ih =>
    obtain _ | ⟨b', e⟩ := e
    · cases h
    · rw [List.zipWith_cons_cons, crc8_cons, byteStep_xor, ih _ _ (Nat.succ.inj h)]
      rfl

/-- Settles O23: by chaining, each law turns on the one byte at which the two sides meet. -/
theorem crcLaws : Obligations.CrcLaws := by
  refine ⟨fun seed d => crc8_append_singleton_eq_zero_iff.mpr rfl, crc8_append, crc8_replicate_zero,
    fun d r => ⟨?lastByte, crc8_append_singleton_eq_zero_iff⟩, fun d e x y hpass hxy hcorrupt => hxy ?corruption,
    fun d e hlen => crc8_zipWith_xor 0x00#8 0x00#8 hlen⟩
  case lastByte =>
    rw [crc8_append, crc8_cons, crc8_nil, byteStep_eq_xor]
  case corruption =>
    rw [crc8_append, crc8_cons] at hpass hcorrupt
    have hstep := crc8_injective e (hpass.trans hcorrupt.symm)
    exact (BitVec.xor_right_inj _).mp (byteStep_eq_iff.mp hstep)

/-- Settles O24: the two constants are eight and nine bits. -/
theorem maskIsTheReflectedPolynomial : Obligations.MaskIsTheReflectedPolynomial := by
  unfold Obligations.MaskIsTheReflectedPolynomial
  decide

end Sys2Proof.Machine
end

section
/-! The fields of an address, of a configuration byte and of a temperature (R63, R90, R94, R96, R101, R103, R106). -/

namespace Sys2Proof.Machine

/-! ## Addresses -/

theorem crcByteOf_append_serialOf_append_familyOf (a : Addr) : crcByteOf a ++ serialOf a ++ familyOf a = a := by
  simp only [crcByteOf, serialOf, familyOf, addrByte]
  rw [BitVec.extractLsb'_append_extractLsb'_eq_extractLsb' (by rfl),
    BitVec.extractLsb'_append_extractLsb'_eq_extractLsb' (by rfl)]
  simp

/-- The bytes of an address are its first seven and its CRC byte. -/
theorem addrBytes_eq_take_append (a : Addr) : addrBytes a = (addrBytes a).take 7 ++ [crcByteOf a] := rfl

/-- Settles O28: the fields are read off the definition, and the CRC byte is the last byte of the frame it guards. -/
theorem addressFieldsAndBytes : Obligations.AddressFieldsAndBytes := fun a => by
  refine ⟨rfl, rfl, rfl, rfl, crcByteOf_append_serialOf_append_familyOf a, ?_⟩
  conv_rhs => rw [addrBytes_eq_take_append]
  exact crc8_append_singleton_eq_zero_iff.symm

/-! ## Configuration bytes -/

theorem cfgValid_cfgOf (res : Resolution) : cfgValid (cfgOf res) = true := by
  cases res <;> decide

theorem resBits_cfgOf (res : Resolution) : resBits (cfgOf res) = resCode res := by
  cases res <;> decide

/-- The four valid bytes are the bytes of the four resolutions (R63, R96). -/
theorem exists_cfgOf_eq {b : Byte} (h : b = 0x1F#8 ∨ b = 0x3F#8 ∨ b = 0x5F#8 ∨ b = 0x7F#8) : ∃ res, cfgOf res = b := by
  obtain rfl | rfl | rfl | rfl := h
  exacts [⟨.bits9, rfl⟩, ⟨.bits10, rfl⟩, ⟨.bits11, rfl⟩, ⟨.bits12, rfl⟩]

/-- Settles O30: a valid byte is that of a resolution, and each of those carries the resolution's code. -/
theorem configurationBytesMatchResolutions : Obligations.ConfigurationBytesMatchResolutions := by
  refine ⟨fun b => ⟨cfgValid_four, fun h => ?_⟩, fun r => ⟨cfgValid_cfgOf r, resBits_cfgOf r⟩, fun b hb => ?_,
    rfl, rfl, rfl, rfl⟩
  · obtain ⟨res, rfl⟩ := exists_cfgOf_eq h
    exact cfgValid_cfgOf res
  · obtain ⟨res, rfl⟩ := exists_cfgOf_eq (cfgValid_four hb)
    exact ⟨res, rfl, (resBits_cfgOf res).symm⟩

/-- Settles O36: `R` carries the two alarm bytes and the configuration byte, which is valid, so the decoder loads them. -/
theorem encodeThenDecodeIsAFixedPoint : Obligations.EncodeThenDecodeIsAFixedPoint := by
  intro th tl res m s t u hencode hb2 hb3 hb4 hdecode
  obtain ⟨-, hencoded⟩ := spEncodePacksTheWriteImage
  obtain ⟨-, hrun⟩ := hencoded th tl res s
  have hr : t.r = 0x00#8 ++ cfgOf res ++ tl ++ th := by
    rw [← Host.Outcome.next.inj (hrun.symm.trans hencode)]
    rfl
  have hth : m.b2 = th := by rw [hb2, hr, BitVec.extractLsb'_append_eq_right]
  have htl : m.b3 = tl := by
    rw [hb3, hr, BitVec.extractLsb'_append_eq_of_le (by decide), BitVec.extractLsb'_append_eq_right]
  have hcfg : m.b4 = cfgOf res := by
    rw [hb4, hr, BitVec.extractLsb'_append_eq_of_le (by decide), BitVec.extractLsb'_append_eq_of_le (by decide),
      BitVec.extractLsb'_append_eq_right]
  obtain ⟨-, hvalid, -⟩ := spDecodeLoadsTheDecodedRegisters m t
  have hmask : (m.b4 &&& 0x9F#8) = 0x1F#8 := cfgValid_iff_mask.mp (hcfg ▸ cfgValid_cfgOf res)
  obtain rfl := Host.Outcome.next.inj ((hvalid hmask).symm.trans hdecode)
  exact ⟨rfl, rfl, hth, htl, (congrArg resBits hcfg).trans (resBits_cfgOf res)⟩

/-! ## Temperatures -/

theorem toInt_tempOf (b0 b1 : Byte) : (tempOf true b0 b1).toInt = b0.toInt * 256 + (b1.toNat : ℤ) := by
  rw [tempOf, if_pos rfl, BitVec.toInt_append, mul_comm]
  simp

theorem degreesOf_mul_sixteen (t : BitVec 16) : degreesOf t * 16 = (t.toInt : ℚ) :=
  div_mul_cancel₀ _ (by norm_num)

/-- Sixteen bits span -2048 to 2047.9375 degrees (R14). -/
theorem degreesOf_range (t : BitVec 16) : -2048 ≤ degreesOf t ∧ degreesOf t ≤ 32767 / 16 := by
  have hlo : (-32768 : ℤ) ≤ t.toInt := t.le_toInt
  have hhi : t.toInt ≤ 32767 := Int.le_of_lt_add_one t.toInt_lt
  have hlo' : (-32768 : ℚ) ≤ t.toInt := mod_cast hlo
  have hhi' : (t.toInt : ℚ) ≤ 32767 := mod_cast hhi
  rw [← degreesOf_mul_sixteen] at hlo' hhi'
  constructor <;> linarith

/-- Settles O37: the two bytes are the halves of the number, and sixteen bits bound it. -/
theorem temperatureIsBigEndianSixteenths : Obligations.TemperatureIsBigEndianSixteenths :=
  ⟨rfl, fun b0 b1 => ⟨toInt_tempOf b0 b1, rfl, degreesOf_mul_sixteen _, degreesOf_range _⟩⟩

/-! ## The binary32 image -/

/-- The three fields of a binary32 number, packed from the sign down (G4). -/
def f32Fields (sign : BitVec 1) (exponent : BitVec 8) (fraction : BitVec 23) : BitVec 32 := sign ++ exponent ++ fraction

theorem f32Fields_exponent (sign : BitVec 1) (exponent : BitVec 8) (fraction : BitVec 23) :
    (f32Fields sign exponent fraction).extractLsb' 23 8 = exponent := by
  rw [f32Fields, BitVec.extractLsb'_append_eq_of_le le_rfl, BitVec.extractLsb'_append_eq_right]

theorem f32Fields_fraction (sign : BitVec 1) (exponent : BitVec 8) (fraction : BitVec 23) :
    (f32Fields sign exponent fraction).extractLsb' 0 23 = fraction :=
  BitVec.extractLsb'_append_eq_right

theorem f32Fields_sign (sign : BitVec 1) (exponent : BitVec 8) (fraction : BitVec 23) :
    (f32Fields sign exponent fraction).getLsbD 31 = sign.getLsbD 0 := by
  rw [f32Fields, BitVec.getLsbD_append, BitVec.getLsbD_append]
  rfl

/-- Of a nonzero temperature the image has the sign, the place of the leading bit and the bits behind it. -/
theorem f32Of_of_ne_zero {t : BitVec 16} (h : t.toInt.natAbs ≠ 0) :
    f32Of t = f32Fields (if t.toInt < 0 then 1#1 else 0#1) (BitVec.ofNat 8 (123 + t.toInt.natAbs.log2))
      (BitVec.ofNat 23 ((t.toInt.natAbs - 2 ^ t.toInt.natAbs.log2) <<< (23 - t.toInt.natAbs.log2))) :=
  if_neg h

/-- A number under its leading bit `k`, moved up so that the leading bit is bit 23. -/
theorem leadingBit_add_fraction {m k : Nat} (hk : k ≤ 23) (hm : 2 ^ k ≤ m) :
    2 ^ 23 + (m - 2 ^ k) <<< (23 - k) = m * 2 ^ (23 - k) := by
  have h23 : (2 : Nat) ^ 23 = 2 ^ k * 2 ^ (23 - k) := by rw [← pow_add, Nat.add_sub_cancel' hk]
  rw [Nat.shiftLeft_eq, h23, ← add_mul, Nat.add_sub_cancel' hm]

/-- Settles O38: a 16-bit magnitude has its leading bit `k` below 16, so the fraction holds all its other bits, and the
exponent `123 + k` is in the normal range. -/
theorem floatImageIsExact : Obligations.FloatImageIsExact := by
  refine ⟨rfl, fun t ht => ?_⟩
  have hm : t.toInt.natAbs ≠ 0 := fun h =>
    ht (BitVec.eq_of_toInt_eq ((Int.natAbs_eq_zero.mp h).trans BitVec.toInt_zero.symm))
  have hlt : t.toInt.natAbs < 2 ^ 16 := by
    have := t.le_toInt
    have := t.toInt_lt
    omega
  rw [f32Of_of_ne_zero hm]
  generalize t.toInt.natAbs = m at hm hlt ⊢
  have hk : m.log2 < 16 := (Nat.log2_lt hm).mpr hlt
  have hfraction : (m - 2 ^ m.log2) <<< (23 - m.log2) < 2 ^ 23 := by
    have htop : m * 2 ^ (23 - m.log2) < 2 ^ 24 := by
      calc m * 2 ^ (23 - m.log2)
        _ < 2 ^ (m.log2 + 1) * 2 ^ (23 - m.log2) := Nat.mul_lt_mul_of_pos_right Nat.lt_log2_self (by positivity)
        _ = 2 ^ 24 := by rw [← pow_add]; congr 1; omega
    have := leadingBit_add_fraction (by omega) (Nat.log2_self_le hm)
    omega
  simp only [f32Fields_sign, f32Fields_exponent, f32Fields_fraction, BitVec.toNat_ofNat, Nat.mod_eq_of_lt hfraction]
  rw [Nat.mod_eq_of_lt (show 123 + m.log2 < 2 ^ 8 by omega)]
  refine ⟨?sign, by omega, by omega, ?magnitude⟩
  case sign => split <;> simp [*]
  case magnitude =>
    rw [leadingBit_add_fraction (by omega) (Nat.log2_self_le hm), mul_assoc, ← pow_add]
    congr 2
    omega

end Sys2Proof.Machine
end

section
/-! The shape of the 22 step lists: the state an operation computes with is the nine register groups of R32; all else belongs
to the sequencer, the ports and the record, and a step that makes no request goes on with it as it is. Said once per kind of
step, and then for every operation, so that what all operations do is an induction over a list of steps. -/

namespace Sys2Proof.Machine

variable {gs hs : List RegGroup} {g : State → State} {m : MicroStep} {fs : List MicroStep} {n : Nat} {s t u : State}

/-! ## The registers and what surrounds them -/

/-- What of a state belongs to the sequencer, to the ports and to the record. -/
structure Surroundings where
  status : Status
  info : Byte
  busy : Bool
  terr : TErr
  curOp : Byte
  sstep : BitVec 4
  reqPort : Option BusRequest
  hostOps : List (List Byte)
  answers : List Answer
  bus : List BusEvent
  draws : Nat

/-- The surroundings of a state's registers. -/
def State.surroundings (s : State) : Surroundings :=
  ⟨s.status, s.info, s.busy, s.terr, s.curOp, s.sstep, s.reqPort, s.hostOps, s.answers, s.bus, s.draws⟩

/-- The registers of a state in other surroundings. -/
def Surroundings.on (e : Surroundings) (s : State) : State :=
  { s with
    status := e.status, info := e.info, busy := e.busy, terr := e.terr, curOp := e.curOp, sstep := e.sstep,
    reqPort := e.reqPort, hostOps := e.hostOps, answers := e.answers, bus := e.bus, draws := e.draws }

@[simp] theorem surroundings_on (e : Surroundings) (s : State) : (e.on s).surroundings = e := rfl

theorem surroundings_on_self (s : State) : s.surroundings.on s = s := rfl

/-- A state whose surroundings have been changed, the registers being kept. -/
def State.surround (E : Surroundings → Surroundings) (s : State) : State := (E s.surroundings).on s

/-- One register group is the same in two states. -/
def SameGroup (s t : State) : RegGroup → Prop
  | .address => t.a = s.a ∧ t.av = s.av
  | .buffer => t.buf = s.buf
  | .result => t.r = s.r
  | .decoded => t.temp = s.temp ∧ t.th = s.th ∧ t.tl = s.tl ∧ t.cfg = s.cfg ∧ t.spv = s.spv
  | .crcUnit => t.crc = s.crc
  | .searchOpen => t.so = s.so
  | .phase => t.phase = s.phase
  | .addressLatch => t.opa = s.opa
  | .writeLatch => t.opw = s.opw

theorem SameGroup.trans {x : RegGroup} (h : SameGroup s t x) (h' : SameGroup t u x) : SameGroup s u x := by
  cases x <;> simp_all [SameGroup]

/-- Two states with the same registers have the same groups. -/
theorem sameGroup_surround (E : Surroundings → Surroundings) (s : State) (x : RegGroup) :
    SameGroup s (s.surround E) x := by
  cases x <;> simp [SameGroup, State.surround, Surroundings.on]

/-- A write of registers of the groups `gs`: it neither reads nor writes what surrounds them. -/
structure RegisterWrite (gs : List RegGroup) (g : State → State) : Prop where
  around : ∀ (e : Surroundings) (s : State), g (e.on s) = e.on (g s)
  sameGroup : ∀ s, ∀ x ∉ gs, SameGroup s (g s) x

/-- A value that is read from the registers alone. -/
def ReadsRegisters {α : Type} (v : State → α) : Prop := ∀ (e : Surroundings) (s : State), v (e.on s) = v s

theorem RegisterWrite.mono (h : RegisterWrite gs g) (hsub : gs ⊆ hs) : RegisterWrite hs g where
  around := h.around
  sameGroup := fun s x hx => h.sameGroup s x fun hin => hx (hsub hin)

theorem RegisterWrite.surroundings (h : RegisterWrite gs g) (s : State) : (g s).surroundings = s.surroundings := by
  have := h.around s.surroundings s
  rw [surroundings_on_self] at this
  rw [this, surroundings_on]

/-- A register write commutes with every change of the surroundings. -/
theorem RegisterWrite.surround (h : RegisterWrite gs g) (E : Surroundings → Surroundings) (s : State) :
    g (s.surround E) = (g s).surround E := by
  rw [State.surround, State.surround, h.around, h.surroundings]

/-! ## The kinds of steps -/

/-- A step that all operations are made of, and the groups it may write. -/
inductive SharedStep (gs : List RegGroup) : MicroStep → Prop
  /-- writes registers -/
  | write {g : State → State} (hg : RegisterWrite gs g) : SharedStep gs (regs g)
  /-- writes registers, then ends the operation unless a condition on them holds -/
  | check {c : State → Prop} [DecidablePred c] {k : Status} {v : State → Byte} {w x : State → State}
      (hc : ReadsRegisters c) (hv : ReadsRegisters v) (hw : RegisterWrite gs w) (hx : RegisterWrite gs x) :
      SharedStep gs fun s => if c (w s) then .go (w s) else .stop (raise k (v (w s)) (x (w s)))
  /-- asks for an acknowledgement of a request made from the registers -/
  | ack {q : State → BusRequest} {before after onErr : State → State} (hq : ReadsRegisters q)
      (hbefore : RegisterWrite gs before) (hafter : RegisterWrite gs after) (honErr : RegisterWrite gs onErr) :
      SharedStep gs fun s => ackStep (q s) before after onErr s
  /-- reads bytes into the receive buffer -/
  | read (n : Nat) (hbuffer : .buffer ∈ gs) : SharedStep gs (busReadStep n)
  /-- waits for the delay primitive -/
  | delay (us : Nat) : SharedStep gs (delayStep us)
  /-- takes an item of an enumeration -/
  | item (first : Bool) (haddress : .address ∈ gs) (hopen : .searchOpen ∈ gs) : SharedStep gs (searchItemStep first)

theorem SharedStep.mono (h : SharedStep gs m) (hsub : gs ⊆ hs) : SharedStep hs m := by
  cases h with
  | write hg => exact .write (hg.mono hsub)
  | check hc hv hw hx => exact .check hc hv (hw.mono hsub) (hx.mono hsub)
  | ack hq hbefore hafter honErr => exact .ack hq (hbefore.mono hsub) (hafter.mono hsub) (honErr.mono hsub)
  | read n hbuffer => exact .read n (hsub hbuffer)
  | delay us => exact .delay us
  | item first haddress hopen => exact .item first (hsub haddress) (hsub hopen)

/-- Steps in the middle of an operation. -/
def Segment (gs : List RegGroup) (fs : List MicroStep) : Prop := ∀ m ∈ fs, SharedStep gs m

theorem Segment.nil : Segment gs [] := fun _ hm => absurd hm List.not_mem_nil

theorem Segment.cons (hm : SharedStep hs m) (hfs : Segment gs fs) (hsub : hs ⊆ gs := by decide) : Segment gs (m :: fs) :=
  List.forall_mem_cons.mpr ⟨hm.mono hsub, hfs⟩

theorem Segment.mono (h : Segment gs fs) (hsub : gs ⊆ hs) : Segment hs fs := fun m hm => (h m hm).mono hsub

/-- The steps of an operation: its last one reports `OK`, or it is a stub's `UNIMPLEMENTED`. -/
inductive Program (gs : List RegGroup) : List MicroStep → Prop
  | last {g : State → State} (hg : RegisterWrite gs g) : Program gs [regs fun s => report .ok (g s)]
  | unimplemented (op : Byte) : Program gs [stub op]
  | cons {m : MicroStep} {fs : List MicroStep} (hm : SharedStep gs m) (hfs : Program gs fs) : Program gs (m :: fs)

theorem Program.mono (h : Program gs fs) (hsub : gs ⊆ hs) : Program hs fs := by
  induction h with
  | last hg => exact .last (hg.mono hsub)
  | unimplemented op => exact .unimplemented op
  | cons hm _ ih => exact .cons (hm.mono hsub) ih

/-- A step of fewer groups before the steps of an operation. -/
theorem Program.step (hm : SharedStep hs m) (hfs : Program gs fs) (hsub : hs ⊆ gs := by decide) : Program gs (m :: fs) :=
  .cons (hm.mono hsub) hfs

/-- The middle of an operation before its end. -/
theorem Segment.append_program {fs' : List MicroStep} (h : Segment hs fs) (h' : Program gs fs')
    (hsub : hs ⊆ gs := by decide) : Program gs (fs ++ fs') := by
  induction fs with
  | nil => exact h'
  | cons m fs ih =>
    obtain ⟨hm, hfs⟩ := List.forall_mem_cons.mp h
    exact .cons (hm.mono hsub) (ih hfs)

/-- A suffix of an operation's steps. -/
theorem Program.drop (h : Program gs fs) (k : Nat) : fs.drop k = [] ∨ Program gs (fs.drop k) := by
  induction h generalizing k with
  | last hg => cases k with
    | zero => exact .inr (.last hg)
    | succ k => exact .inl (by simp)
  | unimplemented op => cases k with
    | zero => exact .inr (.unimplemented op)
    | succ k => exact .inl (by simp)
  | cons hm hfs ih => cases k with
    | zero => exact .inr (.cons hm hfs)
    | succ k => exact ih k

/-! ## The register writes of the model -/

theorem registerWrite_id : RegisterWrite gs id where
  around := fun _ _ => rfl
  sameGroup := fun s x _ => sameGroup_surround id s x

theorem RegisterWrite.comp {f : State → State} (hg : RegisterWrite gs g) (hf : RegisterWrite gs f) :
    RegisterWrite gs fun s => g (f s) where
  around := fun e s => by rw [hf.around, hg.around]
  sameGroup := fun s x hx => (hf.sameGroup s x hx).trans (hg.sameGroup (f s) x hx)

/-- `A` and `AV` (R11, R21). -/
theorem registerWrite_address {a : State → Addr} {av : State → Bool} (ha : ReadsRegisters a) (hav : ReadsRegisters av) :
    RegisterWrite [.address] fun s => { s with a := a s, av := av s } where
  around := fun e s => by simp only [ha e s, hav e s]; rfl
  sameGroup := fun s x hx => by cases x <;> simp [SameGroup] at hx ⊢

/-- `BUF` (R12). -/
theorem registerWrite_buffer (buf : Image9) : RegisterWrite [.buffer] fun s => { s with buf := buf } where
  around := fun _ _ => rfl
  sameGroup := fun s x hx => by cases x <;> simp [SameGroup] at hx ⊢

/-- `R` (R13). -/
theorem registerWrite_setR {w : Nat} {v : State → BitVec w} (hv : ReadsRegisters v) :
    RegisterWrite [.result] fun s => setR (v s) s where
  around := fun e s => by rw [hv e s]; rfl
  sameGroup := fun s x hx => by cases x <;> simp [SameGroup] at hx ⊢

/-- `SPV` alone (R22). -/
theorem registerWrite_spv (v : Bool) : RegisterWrite [.decoded] fun s => { s with spv := v } where
  around := fun _ _ => rfl
  sameGroup := fun s x hx => by cases x <;> simp [SameGroup] at hx ⊢

/-- The decoded registers and `SPV` (R14 to R16, R22). -/
theorem registerWrite_loadDecoded : RegisterWrite [.decoded] loadDecoded where
  around := fun _ _ => rfl
  sameGroup := fun s x hx => by cases x <;> simp [SameGroup] at hx ⊢

/-- `CRC` (R27). -/
theorem registerWrite_crc {v : State → Byte} (hv : ReadsRegisters v) :
    RegisterWrite [.crcUnit] fun s => { s with crc := v s } where
  around := fun e s => by simp only [hv e s]; rfl
  sameGroup := fun s x hx => by cases x <;> simp [SameGroup] at hx ⊢

/-- `SO` (R23). -/
theorem registerWrite_so (v : Bool) : RegisterWrite [.searchOpen] fun s => { s with so := v } where
  around := fun _ _ => rfl
  sameGroup := fun s x hx => by cases x <;> simp [SameGroup] at hx ⊢

/-- `PHASE` (R24). -/
theorem registerWrite_setPhase (p : Phase) : RegisterWrite [.phase] (setPhase p) where
  around := fun _ _ => rfl
  sameGroup := fun s x hx => by cases x <;> simp [SameGroup] at hx ⊢

/-- `OPA` (R30). -/
theorem registerWrite_latchAddr (a : Addr) : RegisterWrite [.addressLatch] (latchAddr a) where
  around := fun _ _ => rfl
  sameGroup := fun s x hx => by cases x <;> simp [SameGroup] at hx ⊢

/-- `OPW` (R30). -/
theorem registerWrite_latchWrite (w : Image3) : RegisterWrite [.writeLatch] (latchWrite w) where
  around := fun _ _ => rfl
  sameGroup := fun s x hx => by cases x <;> simp [SameGroup] at hx ⊢

/-! ## The shared steps of the model -/

theorem sharedStep_phaseCheck (op : Byte) (need : Phase) : SharedStep [.phase] (phaseCheck op need) :=
  .check (c := fun s => s.phase = need) (v := fun _ => op) (w := id) (x := setPhase .none) (fun _ _ => rfl)
    (fun _ _ => rfl) registerWrite_id (registerWrite_setPhase .none)

theorem sharedStep_crcVerdict : SharedStep [] crcVerdict :=
  .check (c := fun s => s.crc = 0x00#8) (v := State.crc) (w := id) (x := id) (fun _ _ => rfl) (fun _ _ => rfl)
    registerWrite_id registerWrite_id

theorem sharedStep_crcCheckStep (n : Nat) : SharedStep [.crcUnit] (crcCheckStep n) :=
  .check (c := fun s => s.crc = 0x00#8) (v := State.crc) (w := fun s => feedCrc Config.crcSeed (bufFront n s.buf) s)
    (x := id) (fun _ _ => rfl) (fun _ _ => rfl)
    (registerWrite_crc (v := fun s => crc8 Config.crcSeed (bufFront n s.buf)) fun _ _ => rfl) registerWrite_id

theorem sharedStep_cfgCheckStep : SharedStep [] cfgCheckStep :=
  .check (c := fun s => cfgValid s.buf.b4 = true) (v := fun s => s.buf.b4) (w := id) (x := id) (fun _ _ => rfl)
    (fun _ _ => rfl) registerWrite_id registerWrite_id

theorem sharedStep_searchFamilyCheck : SharedStep [] searchFamilyCheck :=
  .check (c := fun s => familyOk s.a = true) (v := fun s => familyOf s.a) (w := id) (x := id) (fun _ _ => rfl)
    (fun _ _ => rfl) registerWrite_id registerWrite_id

/-- The open check of `SEARCH` ends the operation where its condition holds, not where it fails. -/
theorem searchOpenCheck_eq (first : Bool) :
    searchOpenCheck first =
      fun s => if ¬ (first = false ∧ s.so = false) then .go s else .stop (raise .searchEnd 0x00#8 s) := by
  funext s
  rw [ite_not]
  rfl

theorem sharedStep_searchOpenCheck (first : Bool) : SharedStep [] (searchOpenCheck first) := by
  rw [searchOpenCheck_eq]
  exact .check (c := fun s => ¬ (first = false ∧ s.so = false)) (v := fun _ => 0x00#8) (w := id) (x := id)
    (fun _ _ => rfl) (fun _ _ => rfl) registerWrite_id registerWrite_id

/-- The check of `CFG_DECODE`, which judges its operand (R97). -/
theorem sharedStep_operandCheck (b : Byte) :
    SharedStep [] fun s => if cfgValid b then .go s else .stop (raise .configRegister b s) :=
  .check (c := fun _ => cfgValid b = true) (v := fun _ => b) (w := id) (x := id) (fun _ _ => rfl) (fun _ _ => rfl)
    registerWrite_id registerWrite_id

theorem sharedStep_busResetStep {after : State → State} (h : RegisterWrite [.phase] after) :
    SharedStep [.phase] (busResetStep after) :=
  .ack (q := fun _ => .reset) (fun _ _ => rfl) registerWrite_id h (registerWrite_setPhase .none)

/-- A frame made from the registers, written with no other effect. -/
theorem sharedStep_frame {frame : State → List Byte} (h : ReadsRegisters frame) :
    SharedStep [] fun s => busWriteStep (frame s) id id s :=
  .ack (q := fun s => .write (frame s)) (fun e s => congrArg BusRequest.write (h e s)) registerWrite_id registerWrite_id
    registerWrite_id

theorem sharedStep_temperatureSelect : SharedStep [.phase] temperatureSelect :=
  .ack (q := fun s => .write (Config.cmdMatchAddress :: addrBytes s.opa)) (fun _ _ => rfl) (registerWrite_setPhase .none)
    (registerWrite_setPhase .memory) registerWrite_id

theorem sharedStep_temperatureCommand (bytes : List Byte) : SharedStep [.phase] (busWriteStep bytes (setPhase .none) id) :=
  .ack (q := fun _ => .write bytes) (fun _ _ => rfl) (registerWrite_setPhase .none) registerWrite_id registerWrite_id

/-! ## Every operation -/

/-- The numbered steps of an operation. -/
def stepsOf : Instr → List MicroStep
  | .busReset => stepsBusReset
  | .crcCalc data =>
    [ regs fun s => { s with crc := Config.crcSeed },
      regs fun s => feedCrc s.crc data s,
      regs fun s => report .ok (setR s.crc s) ]
  | .crcCalcInit seed data =>
    [ regs fun s => { s with crc := seed },
      regs fun s => feedCrc s.crc data s,
      regs fun s => report .ok (setR s.crc s) ]
  | .crcCheck data =>
    [ regs fun s => { s with crc := Config.crcSeed },
      regs fun s => feedCrc s.crc data s,
      regs fun s => setR s.crc s,
      crcVerdict,
      succeed ]
  | .familyCode _ => [regs fun s => report .ok (setR (familyOf s.opa) s)]
  | .cfgDecode b =>
    [ fun s => if cfgValid b then .go s else .stop (raise .configRegister b s),
      regs fun s => report .ok (setR (resBits b) s) ]
  | .cfgEncode res => [regs fun s => report .ok (setR (cfgOf res) s)]
  | .spDecode img => [regs fun s => { s with spv := false, buf := img }, cfgCheckStep, regs loadDecoded, succeed]
  | .spEncode _ _ _ => [regs fun s => report .ok (setR (packWriteImage s.opw) s)]
  | .convTime res => [regs fun s => report .ok (setR (convTimeOf res) s)]
  | .temperature _ => stepsTemperature
  | .readAddress => stepsReadAddress
  | .matchAddress _ => stepsMatchAddress
  | .skipAddress => stepsSkipAddress
  | .searchAlarm => stepsStub 0xEC#8 .selection
  | .search first => stepsSearch first
  | .readScratchpad => stepsReadScratchpad
  | .writeScratchpad _ _ _ => stepsWriteScratchpad
  | .convertTemperature => stepsConvertTemperature
  | .loadScratchpad => stepsStub 0xB8#8 .memory
  | .saveScratchpad => stepsStub 0x48#8 .memory
  | .readPowerSupply => stepsStub 0xB4#8 .memory

/-- The operand latch that an operation's acceptance loads (R30, R65). -/
def latch : Instr → State → State
  | .familyCode a => latchAddr a
  | .temperature a => latchAddr a
  | .matchAddress a => latchAddr a
  | .spEncode th tl res => latchWrite (writeImage th tl res)
  | .writeScratchpad th tl res => latchWrite (writeImage th tl res)
  | .busReset => id
  | .crcCalc _ => id
  | .crcCalcInit _ _ => id
  | .crcCheck _ => id
  | .cfgDecode _ => id
  | .cfgEncode _ => id
  | .spDecode _ => id
  | .convTime _ => id
  | .readAddress => id
  | .skipAddress => id
  | .searchAlarm => id
  | .search _ => id
  | .readScratchpad => id
  | .convertTemperature => id
  | .loadScratchpad => id
  | .saveScratchpad => id
  | .readPowerSupply => id

/-- An operation is accepted with its operand latched, and runs its steps (R30, R31). -/
theorem exec_eq (i : Instr) (s : State) : exec i s = .next (runOp (opcode i) (stepsOf i) (latch i s)) := by
  cases i <;> rfl

theorem latch_registerWrite (i : Instr) : RegisterWrite (groupsWritten i) (latch i) := by
  cases i <;> dsimp only [groupsWritten]
  case familyCode a => exact (registerWrite_latchAddr a).mono (by decide)
  case temperature a => exact (registerWrite_latchAddr a).mono (by decide)
  case matchAddress a => exact (registerWrite_latchAddr a).mono (by decide)
  case spEncode th tl res => exact (registerWrite_latchWrite _).mono (by decide)
  case writeScratchpad th tl res => exact (registerWrite_latchWrite _).mono (by decide)
  all_goals exact registerWrite_id

/-- The last step of most operations. -/
theorem program_succeed : Program gs [succeed] := .last registerWrite_id

/-- The last step of an operation that reports a value. -/
theorem program_reportR {w : Nat} {v : State → BitVec w} (hv : ReadsRegisters v) :
    Program [.result] [regs fun s => report .ok (setR (v s) s)] :=
  .last (registerWrite_setR hv)

/-- The last step of a selection command. -/
theorem program_reportPhase (p : Phase) : Program [.phase] [regs fun s => report .ok (setPhase p s)] :=
  .last (registerWrite_setPhase p)

theorem program_seed_feedCrc {fs : List MicroStep} (seed : Byte) (data : List Byte) (h : Program [.crcUnit, .result] fs) :
    Program [.crcUnit, .result] (regs (fun s => { s with crc := seed }) :: regs (fun s => feedCrc s.crc data s) :: fs) :=
  .step (.write (registerWrite_crc (v := fun _ => seed) fun _ _ => rfl)) <|
  .step (.write (registerWrite_crc (v := fun s => crc8 s.crc data) fun _ _ => rfl)) h

theorem program_loadDecoded : Program [.decoded] [cfgCheckStep, regs loadDecoded, succeed] :=
  .step sharedStep_cfgCheckStep <| .step (.write registerWrite_loadDecoded) program_succeed

/-- The read of an image and the CRC check over it (R89). -/
theorem segment_receive (n : Nat) : Segment [.buffer, .crcUnit] [busReadStep n, crcCheckStep n] :=
  .cons (.read (gs := [.buffer]) n (by decide)) <| .cons (sharedStep_crcCheckStep n) .nil

/-- A one-byte frame, the read it asks for, and the CRC check. -/
theorem segment_exchange (command : Byte) (n : Nat) :
    Segment [.buffer, .crcUnit] [busWriteStep [command] id id, busReadStep n, crcCheckStep n] :=
  .cons (sharedStep_frame (frame := fun _ => [command]) fun _ _ => rfl) (segment_receive n)

/-- A command checks and consumes the phase, then does what it does (R147, R24). -/
theorem program_command {op : Byte} {need : Phase} {fs : List MicroStep} (h : Program gs fs) (hphase : .phase ∈ gs) :
    Program gs (phaseCheck op need :: regs (setPhase .none) :: fs) :=
  .step (sharedStep_phaseCheck op need) (.step (.write (registerWrite_setPhase .none)) h (by simpa using hphase))
    (by simpa using hphase)

theorem segment_command {op : Byte} {need : Phase} {fs : List MicroStep} (h : Segment gs fs) (hphase : .phase ∈ gs) :
    Segment gs (phaseCheck op need :: regs (setPhase .none) :: fs) :=
  .cons (sharedStep_phaseCheck op need) (.cons (.write (registerWrite_setPhase .none)) h (by simpa using hphase))
    (by simpa using hphase)

theorem program_stub (op : Byte) (need : Phase) : Program [.phase] (stepsStub op need) :=
  program_command (.unimplemented op) (by decide)

/-- What follows the consumption of the phase in `READ_ADDRESS`. -/
theorem program_readAddress_frame : Program [.address, .buffer, .crcUnit] (stepsReadAddress.drop 3) :=
  (segment_exchange Config.cmdReadAddress Config.nAddr).append_program <|
  .step (.write (registerWrite_address (a := fun s => addrOfImage s.buf) (av := fun _ => true) (fun _ _ => rfl)
    fun _ _ => rfl)) program_succeed

/-- What follows the consumption of the phase in `READ_SCRATCHPAD`. -/
theorem program_readScratchpad_frame : Program [.buffer, .decoded, .crcUnit] (stepsReadScratchpad.drop 3) :=
  (segment_exchange Config.cmdReadScratchpad Config.nSp).append_program (program_loadDecoded.mono (by decide))

/-- What follows the consumption of the phase in `WRITE_SCRATCHPAD`. -/
theorem program_writeScratchpad_frame : Program [] (stepsWriteScratchpad.drop 2) :=
  .step (sharedStep_frame (frame := fun s => Config.cmdWriteScratchpad :: writeBytes s.opw) fun _ _ => rfl)
    program_succeed

/-- What follows the consumption of the phase in `CONVERT_TEMPERATURE`. -/
theorem program_convertTemperature_frame : Program [] (stepsConvertTemperature.drop 2) :=
  .step (sharedStep_frame (frame := fun _ => [Config.cmdConvertTemperature]) fun _ _ => rfl) <|
  .step (.delay (gs := []) Config.tConvMax) program_succeed

/-- What follows the first step of `SEARCH`. -/
theorem program_search_item (first : Bool) : Program [.address, .searchOpen] ((stepsSearch first).drop 1) :=
  .step (sharedStep_searchOpenCheck first) <| .step (.item (gs := [.address, .searchOpen]) first (by decide) (by decide)) <|
  .step sharedStep_searchFamilyCheck <|
  .last ((registerWrite_address (a := fun s => s.a) (av := fun _ => true) (fun _ _ => rfl) fun _ _ => rfl).mono (by decide))

/-- `TEMPERATURE` from its first request to the CRC check. -/
theorem segment_temperature : Segment [.buffer, .crcUnit, .phase] ((stepsTemperature.drop 1).take 9) :=
  .cons (sharedStep_busResetStep (registerWrite_setPhase .selection)) <| .cons sharedStep_temperatureSelect <|
  .cons (sharedStep_temperatureCommand [Config.cmdConvertTemperature]) <| .cons (.delay (gs := []) Config.tConvMax) <|
  .cons (sharedStep_busResetStep (registerWrite_setPhase .selection)) <| .cons sharedStep_temperatureSelect <|
  .cons (sharedStep_temperatureCommand [Config.cmdReadScratchpad]) <|
  (segment_receive Config.nSp).mono (by decide)

theorem program_temperature : Program [.buffer, .decoded, .crcUnit, .searchOpen, .phase] stepsTemperature :=
  .step (.write ((registerWrite_so false).mono (by decide) |>.comp ((registerWrite_spv false).mono (by decide)) :
    RegisterWrite [.decoded, .searchOpen] _)) <|
  segment_temperature.append_program (program_loadDecoded.mono (by decide))

/-- Every operation is made of shared steps, and each writes only the groups that R32 names for the operation. -/
theorem program_stepsOf (i : Instr) : Program (groupsWritten i) (stepsOf i) := by
  have hav : RegisterWrite [.address] fun s => { s with av := false } :=
    registerWrite_address (a := fun s => s.a) (av := fun _ => false) (fun _ _ => rfl) fun _ _ => rfl
  cases i <;> dsimp only [groupsWritten]
  case busReset =>
    exact .step (.write (registerWrite_so false)) <|
      .step (sharedStep_busResetStep (registerWrite_id (gs := [.phase]))) <| (program_reportPhase .selection).mono (by decide)
  case crcCalc data => exact program_seed_feedCrc _ data ((program_reportR fun _ _ => rfl).mono (by decide))
  case crcCalcInit seed data => exact program_seed_feedCrc seed data ((program_reportR fun _ _ => rfl).mono (by decide))
  case crcCheck data =>
    exact program_seed_feedCrc _ data <| .step (.write (registerWrite_setR (v := State.crc) fun _ _ => rfl)) <|
      .step sharedStep_crcVerdict program_succeed
  case familyCode a => exact (program_reportR (v := fun s => familyOf s.opa) fun _ _ => rfl).mono (by decide)
  case cfgDecode b => exact .step (sharedStep_operandCheck b) (program_reportR fun _ _ => rfl)
  case cfgEncode res => exact program_reportR fun _ _ => rfl
  case spDecode img =>
    exact .step (.write ((registerWrite_buffer img).mono (by decide) |>.comp ((registerWrite_spv false).mono (by decide)) :
      RegisterWrite [.buffer, .decoded] _)) (program_loadDecoded.mono (by decide))
  case spEncode th tl res => exact (program_reportR (v := fun s => packWriteImage s.opw) fun _ _ => rfl).mono (by decide)
  case convTime res => exact program_reportR fun _ _ => rfl
  case temperature a => exact program_temperature.mono (by decide)
  case readAddress => exact .step (.write hav) (program_command (program_readAddress_frame.mono (by decide)) (by decide))
  case matchAddress a =>
    exact program_command (.step (sharedStep_frame (frame := fun s => Config.cmdMatchAddress :: addrBytes s.opa)
      fun _ _ => rfl) ((program_reportPhase .memory).mono (by decide))) (by decide)
  case skipAddress =>
    exact program_command (.step (sharedStep_frame (frame := fun _ => [Config.cmdSkipAddress]) fun _ _ => rfl)
      (program_reportPhase .memory)) (by decide)
  case searchAlarm => exact program_stub 0xEC#8 .selection
  case search first =>
    exact .step (.write ((registerWrite_setPhase .none).mono (by decide) |>.comp (hav.mono (by decide)) :
      RegisterWrite [.address, .phase] _)) ((program_search_item first).mono (by decide))
  case readScratchpad =>
    exact .step (.write (registerWrite_spv false))
      (program_command (program_readScratchpad_frame.mono (by decide)) (by decide))
  case writeScratchpad th tl res => exact program_command (program_writeScratchpad_frame.mono (by decide)) (by decide)
  case convertTemperature => exact program_command (program_convertTemperature_frame.mono (by decide)) (by decide)
  case loadScratchpad => exact program_stub 0xB8#8 .memory
  case saveScratchpad => exact program_stub 0x48#8 .memory
  case readPowerSupply => exact program_stub 0xB4#8 .memory

end Sys2Proof.Machine
end

section
/-! What every operation does (R20, R31, R32): it ends, or it waits at a request; it writes only its own register groups; it
takes no word from the port and only adds to the record. By induction over the steps of `Program`. -/

namespace Sys2Proof.Machine

variable {i : Instr} {gs : List RegGroup} {g : State → State} {m : MicroStep} {fs : List MicroStep} {n : Nat}
  {s t u : State}

/-! ## What a step leaves of the state -/

/-- What the middle and the end of an operation keep of the state it started from. -/
structure Kept (gs : List RegGroup) (s t : State) : Prop where
  sameGroup : ∀ x ∉ gs, SameGroup s t x
  curOp : t.curOp = s.curOp
  hostOps : t.hostOps = s.hostOps
  bus : s.bus <+: t.bus

/-- An operation in its middle: it has written no status. -/
structure GoesOn (gs : List RegGroup) (s t : State) : Prop extends Kept gs s t where
  busy : t.busy = s.busy
  status : t.status = s.status
  info : t.info = s.info
  terr : t.terr = s.terr

/-- An operation at its end: it has written `TERR` only with `TRANSPORT` (R28, R141). -/
structure Ended (gs : List RegGroup) (s t : State) : Prop extends Kept gs s t where
  busy : t.busy = false
  sstep : t.sstep = 0#4
  terr : t.status ≠ .transport → t.terr = s.terr

theorem Kept.trans (h : Kept gs s t) (h' : Kept gs t u) : Kept gs s u where
  sameGroup := fun x hx => (h.sameGroup x hx).trans (h'.sameGroup x hx)
  curOp := h'.curOp.trans h.curOp
  hostOps := h'.hostOps.trans h.hostOps
  bus := h.bus.trans h'.bus

theorem GoesOn.trans (h : GoesOn gs s t) (h' : GoesOn gs t u) : GoesOn gs s u where
  toKept := h.toKept.trans h'.toKept
  busy := h'.busy.trans h.busy
  status := h'.status.trans h.status
  info := h'.info.trans h.info
  terr := h'.terr.trans h.terr

theorem GoesOn.trans_ended (h : GoesOn gs s t) (h' : Ended gs t u) : Ended gs s u where
  toKept := h.toKept.trans h'.toKept
  busy := h'.busy
  sstep := h'.sstep
  terr := fun hk => (h'.terr hk).trans h.terr

/-- The step counter is no part of what an operation keeps. -/
theorem GoesOn.sstep (h : GoesOn gs s t) (k : BitVec 4) : GoesOn gs s { t with sstep := k } :=
  { h with sameGroup := fun x hx => by cases x <;> exact h.sameGroup _ hx }

theorem GoesOn.raise (h : GoesOn gs s t) (k : Status) (v : Byte) : Ended gs s (raise k v t) :=
  { h with
    sameGroup := fun x hx => by cases x <;> exact h.sameGroup _ hx
    busy := rfl
    sstep := rfl
    terr := fun _ => h.terr }

theorem GoesOn.transportError (h : GoesOn gs s t) (e : TErr) : Ended gs s (transportError e t) :=
  { h with
    sameGroup := fun x hx => by cases x <;> exact h.sameGroup _ hx
    busy := rfl
    sstep := rfl
    terr := fun hk => absurd rfl hk }

/-- A request at the port is no part of what an operation keeps. -/
theorem Kept.offer (h : Kept gs s t) (q : BusRequest) : Kept gs s (offer q t) :=
  { h with sameGroup := fun x hx => by cases x <;> exact h.sameGroup _ hx }

theorem RegisterWrite.goesOn (h : RegisterWrite gs g) (s : State) : GoesOn gs s (g s) where
  sameGroup := h.sameGroup s
  curOp := congrArg Surroundings.curOp (h.surroundings s)
  hostOps := congrArg Surroundings.hostOps (h.surroundings s)
  bus := ⟨[], (List.append_nil _).trans (congrArg Surroundings.bus (h.surroundings s)).symm⟩
  busy := congrArg Surroundings.busy (h.surroundings s)
  status := congrArg Surroundings.status (h.surroundings s)
  info := congrArg Surroundings.info (h.surroundings s)
  terr := congrArg Surroundings.terr (h.surroundings s)

/-- An exchange adds to the record and writes no register. -/
theorem goesOn_takeAnswer (q : BusRequest) (ans : Answer) (rest : List Answer) (s : State) :
    GoesOn gs s (takeAnswer q ans rest s) where
  sameGroup := fun x _ => by cases x <;> simp [SameGroup]
  curOp := rfl
  hostOps := rfl
  bus := List.prefix_append ..
  busy := rfl
  status := rfl
  info := rfl
  terr := rfl

/-- All a shared step can do. -/
theorem SharedStep.cases (h : SharedStep gs m) (s : State) :
    (∃ t, m s = .go t ∧ GoesOn gs s t) ∨ (∃ t, m s = .stop t ∧ Ended gs s t) ∨ ∃ q, m s = .wait (offer q s) := by
  cases h with
  | write hg => exact .inl ⟨_, rfl, hg.goesOn s⟩
  | @check c _ k v w x hc hv hw hx =>
    by_cases h : c (w s)
    · exact .inl ⟨w s, if_pos h, hw.goesOn s⟩
    · exact .inr (.inl ⟨_, if_neg h, ((hw.goesOn s).trans (hx.goesOn (w s))).raise k (v (w s))⟩)
  | @ack q before after onErr hq hbefore hafter honErr =>
    obtain ⟨rest, -, hgo⟩ | ⟨e, rest, -, hstop⟩ | hwait := ackStep_cases (q s) before after onErr s
    · exact .inl ⟨_, hgo, ((goesOn_takeAnswer ..).trans (hbefore.goesOn _)).trans (hafter.goesOn _)⟩
    · exact .inr (.inl ⟨_, hstop,
        (((goesOn_takeAnswer ..).trans (hbefore.goesOn _)).trans (honErr.goesOn _)).transportError e⟩)
    · exact .inr (.inr ⟨q s, hwait⟩)
  | read n hbuffer =>
    have hfill : ∀ img, RegisterWrite gs fun s => { s with buf := img } := fun img =>
      (registerWrite_buffer img).mono (by simpa using hbuffer)
    obtain ⟨bs, rest, -, -, hgo⟩ | ⟨e, rest, free, -, -, hstop⟩ | hwait := busReadStep_cases n s
    · exact .inl ⟨_, hgo, (goesOn_takeAnswer ..).trans ((hfill _).goesOn _)⟩
    · exact .inr (.inl ⟨_, hstop, ((goesOn_takeAnswer ..).trans ((hfill _).goesOn _)).transportError e⟩)
    · exact .inr (.inr ⟨_, hwait⟩)
  | delay us =>
    obtain ⟨rest, -, hgo⟩ | hwait := delayStep_cases us s
    · exact .inl ⟨_, hgo, goesOn_takeAnswer ..⟩
    · exact .inr (.inr ⟨_, hwait⟩)
  | item first haddress hopen =>
    have hso : ∀ v, RegisterWrite gs fun s => { s with so := v } := fun v =>
      (registerWrite_so v).mono (by simpa using hopen)
    have ha : ∀ a, RegisterWrite gs fun s => { s with a := a } := fun a =>
      (registerWrite_address (a := fun _ => a) (av := fun s => s.av) (fun _ _ => rfl) fun _ _ => rfl).mono
        (by simpa using haddress)
    obtain ⟨a, rest, -, hgo⟩ | ⟨e, rest, -, hstop⟩ | ⟨rest, -, hstop⟩ | hwait := searchItemStep_cases first s
    · exact .inl ⟨_, hgo, ((goesOn_takeAnswer ..).trans ((hso true).goesOn _)).trans ((ha a).goesOn _)⟩
    · exact .inr (.inl ⟨_, hstop, ((goesOn_takeAnswer ..).trans ((hso true).goesOn _)).transportError e⟩)
    · exact .inr (.inl ⟨_, hstop, ((goesOn_takeAnswer ..).trans ((hso false).goesOn _)).raise .searchEnd 0x00#8⟩)
    · exact .inr (.inr ⟨_, hwait⟩)

/-- An operation ends, or waits at a request with nothing of that step done (R31). -/
theorem Program.ends_or_waits (h : Program gs fs) (n : Nat) (s : State) :
    Ended gs s (runSteps fs n s) ∨ ∃ u q, GoesOn gs s u ∧ runSteps fs n s = offer q u := by
  induction h generalizing n s with
  | last hg => exact .inl ((hg.goesOn s).raise .ok 0x00#8)
  | unimplemented op => exact .inl (((registerWrite_id).goesOn s).raise .unimplemented op)
  | cons hm _ ih =>
    obtain ⟨t, hgo, ht⟩ | ⟨t, hstop, ht⟩ | ⟨q, hwait⟩ := hm.cases s
    · rw [runSteps_go hgo]
      have ht := ht.sstep (BitVec.ofNat 4 (n + 1))
      obtain hended | ⟨u, q, hu, hoffer⟩ := ih (n + 1) { t with sstep := BitVec.ofNat 4 (n + 1) }
      · exact .inl (ht.trans_ended hended)
      · exact .inr ⟨u, q, ht.trans hu, hoffer⟩
    · exact .inl (runSteps_stop hstop ▸ ht)
    · exact .inr ⟨s, q, registerWrite_id.goesOn s, runSteps_wait hwait⟩

theorem Program.kept (h : Program gs fs) (n : Nat) (s : State) : Kept gs s (runSteps fs n s) := by
  obtain hended | ⟨u, q, hu, hoffer⟩ := h.ends_or_waits n s
  · exact hended.toKept
  · exact hoffer ▸ hu.toKept.offer q

/-- The state in which the steps of an operation start. -/
def accepted (i : Instr) (s : State) : State := accept (opcode i) (latch i s)

theorem goesOn_latch (i : Instr) (s : State) : GoesOn (groupsWritten i) s (latch i s) := (latch_registerWrite i).goesOn s

/-- All an operation can do: it ends, or it waits at a request. -/
theorem exec_ends_or_waits (he : exec i s = .next t) :
    Ended (groupsWritten i) (accepted i s) t ∨ ∃ u q, GoesOn (groupsWritten i) (accepted i s) u ∧ t = offer q u := by
  obtain rfl := Host.Outcome.next.inj ((exec_eq i s).symm.trans he)
  exact (program_stepsOf i).ends_or_waits 1 (accepted i s)

theorem exec_kept (he : exec i s = .next t) : Kept (groupsWritten i) (accepted i s) t := by
  obtain rfl := Host.Outcome.next.inj ((exec_eq i s).symm.trans he)
  exact (program_stepsOf i).kept 1 (accepted i s)

/-- The register groups from before the acceptance of an operation. -/
theorem exec_sameGroup (he : exec i s = .next t) {x : RegGroup} (hx : x ∉ groupsWritten i) : SameGroup s t x := by
  have hlatch := (goesOn_latch i s).sameGroup x hx
  have haccept : SameGroup (latch i s) (accepted i s) x := by cases x <;> simp [SameGroup, accepted]
  exact (hlatch.trans haccept).trans ((exec_kept he).sameGroup x hx)

/-- Settles O20: the groups are those of the operation's steps, and the rest is what every step keeps. -/
theorem registersAreWrittenOnlyByTheirOperations : Obligations.RegistersAreWrittenOnlyByTheirOperations := by
  intro i s t he
  have hkept := exec_kept he
  have hlatch := goesOn_latch i s
  refine ⟨exec_sameGroup (x := .address) he, exec_sameGroup (x := .buffer) he, exec_sameGroup (x := .result) he,
    exec_sameGroup (x := .decoded) he, exec_sameGroup (x := .crcUnit) he, exec_sameGroup (x := .searchOpen) he,
    exec_sameGroup (x := .phase) he, exec_sameGroup (x := .addressLatch) he, exec_sameGroup (x := .writeLatch) he,
    fun h => ?terr, fun h => ?status, hkept.curOp, hkept.hostOps.trans hlatch.hostOps, ?bus⟩
  case terr =>
    obtain hended | ⟨u, q, hu, rfl⟩ := exec_ends_or_waits he
    · exact (hended.terr (h.resolve_left (by simp [hended.busy]))).trans hlatch.terr
    · exact hu.terr.trans hlatch.terr
  case status =>
    obtain hended | ⟨u, q, hu, rfl⟩ := exec_ends_or_waits he
    · exact absurd h (by simp [hended.busy])
    · exact ⟨hu.status.trans hlatch.status, hu.info.trans hlatch.info⟩
  case bus =>
    obtain ⟨events, hevents⟩ := hlatch.bus.trans hkept.bus
    exact ⟨events, hevents.symm⟩

/-! ## The pure operations -/

/-- A pure operation ends at once; of what surrounds the registers it writes `STATUS`, `INFO` and `CUR_OP`. -/
theorem exec_pure_surroundings (h : isPure i = true) (he : exec i s = .next t) :
    t.surroundings =
      { s.surroundings with
        status := t.status, info := t.info, busy := false, curOp := opcode i, sstep := 0#4, reqPort := none } := by
  cases i <;> cases h
  case crcCalc data => obtain ⟨-, hrun⟩ := crcCalcGivesTheChecksum data s; cases hrun.symm.trans he; rfl
  case crcCalcInit seed data =>
    obtain ⟨-, hrun⟩ := crcCalcInitGivesTheSeededChecksum seed data s; cases hrun.symm.trans he; rfl
  case crcCheck data => obtain ⟨-, hrun⟩ := crcCheckJudgesTheChecksum data s; cases hrun.symm.trans he; rfl
  case familyCode a => obtain ⟨-, hrun⟩ := familyCodeGivesByteZero a s; cases hrun.symm.trans he; rfl
  case cfgDecode b =>
    obtain ⟨-, hvalid, hinvalid⟩ := cfgDecodeAcceptsFourBytes b s
    by_cases hb : (b &&& 0x9F#8) = 0x1F#8
    · cases (hvalid hb).symm.trans he; rfl
    · cases (hinvalid hb).symm.trans he; rfl
  case cfgEncode res => obtain ⟨-, hrun⟩ := cfgEncodeGivesTheByte.2 res s; cases hrun.symm.trans he; rfl
  case spDecode img =>
    obtain ⟨-, hvalid, hinvalid⟩ := spDecodeLoadsTheDecodedRegisters img s
    by_cases hb : (img.b4 &&& 0x9F#8) = 0x1F#8
    · cases (hvalid hb).symm.trans he; rfl
    · cases (hinvalid hb).symm.trans he; rfl
  case spEncode th tl res => obtain ⟨-, hrun⟩ := spEncodePacksTheWriteImage.2 th tl res s; cases hrun.symm.trans he; rfl
  case convTime res => obtain ⟨-, hrun⟩ := convTimeHalvesPerStep.2 res s; cases hrun.symm.trans he; rfl

/-- The pure operations write neither of `PHASE`, `SO` and the address registers. -/
theorem notMem_groupsWritten_of_isPure (h : isPure i = true) :
    .phase ∉ groupsWritten i ∧ .searchOpen ∉ groupsWritten i ∧ .address ∉ groupsWritten i := by
  cases i <;> cases h <;> simp [groupsWritten]

/-- Settles O19: the registers by the groups that no pure operation writes, the rest by its surroundings. -/
theorem pureOperationsLeaveBusAndPhase : Obligations.PureOperationsLeaveBusAndPhase := by
  intro i s t h he
  have haround := exec_pure_surroundings h he
  obtain ⟨hphase, hopen, haddress⟩ := notMem_groupsWritten_of_isPure h
  obtain ⟨ha, hav⟩ := exec_sameGroup (x := .address) he haddress
  exact ⟨congrArg Surroundings.busy haround, exec_sameGroup (x := .phase) he hphase, congrArg Surroundings.bus haround,
    congrArg Surroundings.answers haround, congrArg Surroundings.hostOps haround, congrArg Surroundings.draws haround,
    exec_sameGroup (x := .searchOpen) he hopen, hav, ha, congrArg Surroundings.terr haround⟩

/-- Settles O14: an operation that waits is not a pure one, which has ended. -/
theorem everyOperationEndsOrWaits : Obligations.EveryOperationEndsOrWaits := by
  intro i s
  refine ⟨_, exec_eq i s, ?_⟩
  obtain hended | ⟨u, q, hu, ht⟩ := exec_ends_or_waits (exec_eq i s)
  · exact .inl ⟨hended.busy, hended.sstep⟩
  · have hbusy : (runOp (opcode i) (stepsOf i) (latch i s)).busy = true := by rw [ht]; exact hu.busy
    refine .inr ⟨hbusy, Bool.eq_false_iff.mpr fun hpure => ?_, by rw [ht]; rfl⟩
    have hidle := congrArg Surroundings.busy (exec_pure_surroundings hpure (exec_eq i s))
    exact Bool.noConfusion (hidle.symm.trans hbusy)

/-! ## A busy block -/

/-- The operation in progress has the steps of an operation. -/
theorem stepsInProgress_eq_stepsOf (h : stepsInProgress s = some fs) : ∃ i, fs = stepsOf i := by
  unfold stepsInProgress at h
  split_ifs at h
  · exact ⟨.busReset, (Option.some.inj h).symm⟩
  · exact ⟨.readAddress, (Option.some.inj h).symm⟩
  · exact ⟨.matchAddress 0#64, (Option.some.inj h).symm⟩
  · exact ⟨.skipAddress, (Option.some.inj h).symm⟩
  · exact ⟨.readScratchpad, (Option.some.inj h).symm⟩
  · exact ⟨.writeScratchpad 0#8 0#8 .bits9, (Option.some.inj h).symm⟩
  · exact ⟨.convertTemperature, (Option.some.inj h).symm⟩
  · exact ⟨.temperature 0#64, (Option.some.inj h).symm⟩
  · split at h <;> cases h
    exact ⟨.search _, rfl⟩

/-- The steps left are a suffix of an operation's. -/
theorem stepsLeft_eq_drop (s : State) : stepsLeft s = [] ∨ ∃ i k, stepsLeft s = (stepsOf i).drop k := by
  unfold stepsLeft
  split
  · exact .inl rfl
  · rename_i fs hfs
    obtain ⟨i, rfl⟩ := stepsInProgress_eq_stepsOf hfs
    split
    · exact .inl rfl
    · exact .inr ⟨i, _, rfl⟩

/-- Going on with an operation takes no word from the port and accepts none. -/
theorem resume_kept (h : resume s = .next t) : ∃ gs, Kept gs s t := by
  obtain rfl := resume_next h
  have hend : ∃ gs, Kept gs s (runSteps [] s.sstep.toNat s) := ⟨[], (((registerWrite_id).goesOn s).raise s.status s.info).toKept⟩
  obtain hnil | ⟨i, k, hdrop⟩ := stepsLeft_eq_drop s
  · rwa [hnil]
  · rw [hdrop]
    obtain hnil | hprogram := (program_stepsOf i).drop k
    · rwa [hnil]
    · exact ⟨_, hprogram.kept _ s⟩

/-- A block whose next step finds no answer to its request has no step (U11). -/
theorem resume_eq_noAnswer (hleft : stepsLeft s = m :: fs) (hwait : m s = .wait t) : resume s = .fault .noAnswer := by
  simp only [resume, hleft, hwait]

/-- A block at a known step that finds no answer. -/
theorem resume_eq_noAnswer_at {k : Nat} {rest : List MicroStep} (hfs : stepsInProgress s = some fs)
    (hn : s.sstep.toNat = k + 1) (hstep : fs.drop k = m :: rest) (hwait : m s = .wait t) :
    resume s = .fault .noAnswer :=
  resume_eq_noAnswer ((stepsLeft_eq hfs hn).trans hstep) hwait

theorem resume_temperature_of_answers_nil (hop : s.curOp = 0x0A#8) (hlo : 2 ≤ s.sstep.toNat) (hhi : s.sstep.toNat ≤ 9)
    (hans : s.answers = []) : resume s = .fault .noAnswer := by
  have hfs : stepsInProgress s = some stepsTemperature := by simp [stepsInProgress, hop]
  generalize hn : s.sstep.toNat = n at hlo hhi
  interval_cases n
  · exact resume_eq_noAnswer_at hfs hn rfl (ackStep_none hans)
  · exact resume_eq_noAnswer_at hfs hn rfl (ackStep_none hans)
  · exact resume_eq_noAnswer_at hfs hn rfl (ackStep_none hans)
  · exact resume_eq_noAnswer_at hfs hn rfl (ask_none hans)
  · exact resume_eq_noAnswer_at hfs hn rfl (ackStep_none hans)
  · exact resume_eq_noAnswer_at hfs hn rfl (ackStep_none hans)
  · exact resume_eq_noAnswer_at hfs hn rfl (ackStep_none hans)
  · exact resume_eq_noAnswer_at hfs hn rfl (ask_none hans)

/-- From every waiting state of the invariant: the step it waits at is the one that makes the request. -/
theorem resume_of_answers_nil (h : RegistersOk s) (hb : s.busy = true) (hans : s.answers = []) :
    resume s = .fault .noAnswer := by
  obtain ⟨-, hwait⟩ := h.sequencer
  obtain ⟨hsome, hpend⟩ := hwait hb
  rw [hpend] at hsome
  obtain ⟨hop, hn⟩ | ⟨hop, hn | hn⟩ | ⟨hop, hn⟩ | ⟨hop, hn⟩ | ⟨hop, hn | hn⟩ | ⟨hop, hn⟩ | ⟨hop, hn | hn⟩ |
    ⟨hop, hn, first, hreq⟩ | ⟨hop, hlo, hhi⟩ := pendingRequest_isSome_cases hsome
  · exact resume_eq_noAnswer_at (fs := stepsBusReset) (by simp [stepsInProgress, hop]) hn rfl (ackStep_none hans)
  · exact resume_eq_noAnswer_at (fs := stepsReadAddress) (by simp [stepsInProgress, hop]) hn rfl (ackStep_none hans)
  · exact resume_eq_noAnswer_at (fs := stepsReadAddress) (by simp [stepsInProgress, hop]) hn rfl (ask_none hans)
  · exact resume_eq_noAnswer_at (fs := stepsMatchAddress) (by simp [stepsInProgress, hop]) hn rfl (ackStep_none hans)
  · exact resume_eq_noAnswer_at (fs := stepsSkipAddress) (by simp [stepsInProgress, hop]) hn rfl (ackStep_none hans)
  · exact resume_eq_noAnswer_at (fs := stepsReadScratchpad) (by simp [stepsInProgress, hop]) hn rfl (ackStep_none hans)
  · exact resume_eq_noAnswer_at (fs := stepsReadScratchpad) (by simp [stepsInProgress, hop]) hn rfl (ask_none hans)
  · exact resume_eq_noAnswer_at (fs := stepsWriteScratchpad) (by simp [stepsInProgress, hop]) hn rfl (ackStep_none hans)
  · exact resume_eq_noAnswer_at (fs := stepsConvertTemperature) (by simp [stepsInProgress, hop]) hn rfl
      (ackStep_none hans)
  · exact resume_eq_noAnswer_at (fs := stepsConvertTemperature) (by simp [stepsInProgress, hop]) hn rfl (ask_none hans)
  · exact resume_eq_noAnswer_at (fs := stepsSearch first) (by simp [stepsInProgress, hop, hreq]) hn rfl (ask_none hans)
  · exact resume_temperature_of_answers_nil hop hlo hhi hans

theorem step_of_busy (hb : s.busy = true) : step s = resume s := if_pos hb

/-- Settles O7: what goes on keeps the port and `CUR_OP`, and a waiting step without an answer is no step. -/
theorem busyBlockAcceptsNoOperation : Obligations.BusyBlockAcceptsNoOperation := by
  refine ⟨fun s t hb hstep => ?_, fun s h hb hans => (step_of_busy hb).trans (resume_of_answers_nil h hb hans)⟩
  obtain ⟨gs, hkept⟩ := resume_kept (step_of_busy hb ▸ hstep)
  exact ⟨hkept.hostOps, hkept.curOp⟩

end Sys2Proof.Machine
end

section
/-! What surrounds the registers is only passed on: payloads (R7, R28, R141), and answers that come later (R31, R46). -/

namespace Sys2Proof.Machine

variable {i : Instr} {gs : List RegGroup} {g : State → State} {m : MicroStep} {fs : List MicroStep} {n : Nat}
  {s t u : State} {f : TErr → TErr}

/-! ## Payloads -/

/-- Replacing the payloads changes the surroundings of the registers only. -/
def Surroundings.mapPayload (f : TErr → TErr) (e : Surroundings) : Surroundings :=
  { e with
    terr := f e.terr, answers := e.answers.map (Answer.mapPayload f), bus := e.bus.map (BusEvent.mapPayload f) }

theorem RegisterWrite.mapPayload (h : RegisterWrite gs g) (f : TErr → TErr) (s : State) :
    g (s.mapPayload f) = (g s).mapPayload f :=
  h.surround (Surroundings.mapPayload f) s

theorem ReadsRegisters.mapPayload {α : Type} {v : State → α} (h : ReadsRegisters v) (f : TErr → TErr) (s : State) :
    v (s.mapPayload f) = v s :=
  h (s.surroundings.mapPayload f) s

theorem busReadStep_mapPayload (n : Nat) : PassesPayloadOn f (busReadStep n) := by
  refine ask_mapPayload f fun ans s => ?_
  cases ans with
  | bytes bs => by_cases hbs : bs.length = n <;> simp [bytesOf, Answer.mapPayload, hbs]; rfl
  | _ => rfl

theorem delayStep_mapPayload (us : Nat) : PassesPayloadOn f (delayStep us) := by
  refine ask_mapPayload f fun ans s => ?_
  cases ans <;> rfl

theorem searchItemStep_mapPayload (first : Bool) : PassesPayloadOn f (searchItemStep first) := by
  refine ask_mapPayload f fun ans s => ?_
  cases ans <;> rfl

/-- A shared step passes payloads on. -/
theorem SharedStep.passesPayloadOn (h : SharedStep gs m) : PassesPayloadOn f m := by
  intro s
  cases h with
  | write hg => exact congrArg MicroResult.go (hg.mapPayload f s)
  | @check c _ k v w x hc hv hw hx =>
    have hcond : c (w (s.mapPayload f)) = c (w s) := by rw [hw.mapPayload, hc.mapPayload]
    by_cases h : c (w s)
    · calc _ = MicroResult.go (w (s.mapPayload f)) := if_pos (hcond ▸ h)
        _ = MicroResult.mapPayload f (.go (w s)) := congrArg MicroResult.go (hw.mapPayload f s)
        _ = _ := congrArg (MicroResult.mapPayload f) (if_pos h).symm
    · calc _ = MicroResult.stop (raise k (v (w (s.mapPayload f))) (x (w (s.mapPayload f)))) := if_neg (hcond ▸ h)
        _ = MicroResult.mapPayload f (.stop (raise k (v (w s)) (x (w s)))) := by
          rw [hw.mapPayload, hv.mapPayload, hx.mapPayload]; rfl
        _ = _ := congrArg (MicroResult.mapPayload f) (if_neg h).symm
  | ack hq hbefore hafter honErr =>
    simp only [hq.mapPayload]
    exact ackStep_mapPayload f (hbefore.mapPayload f) (hafter.mapPayload f) (honErr.mapPayload f) s
  | read n hbuffer => exact busReadStep_mapPayload n s
  | delay us => exact delayStep_mapPayload us s
  | item first haddress hopen => exact searchItemStep_mapPayload first s

theorem Program.passesPayloadOn (h : Program gs fs) : ∀ m ∈ fs, PassesPayloadOn f m := by
  induction h with
  | last hg =>
    refine List.forall_mem_singleton.mpr fun s => ?_
    rw [regs, hg.mapPayload]
    rfl
  | unimplemented op => exact List.forall_mem_singleton.mpr fun _ => rfl
  | cons hm _ ih => exact List.forall_mem_cons.mpr ⟨hm.passesPayloadOn, ih⟩

theorem exec_mapPayload (f : TErr → TErr) (i : Instr) (s : State) :
    exec i (s.mapPayload f) = mapPayloadOutcome f (exec i s) := by
  rw [exec_eq, exec_eq, (latch_registerWrite i).mapPayload]
  exact congrArg Host.Outcome.next
    (runSteps_mapPayload f (accepted i s) (program_stepsOf i).passesPayloadOn 1)

theorem stepsLeft_passPayloadOn (s : State) : ∀ m ∈ stepsLeft s, PassesPayloadOn f m := by
  obtain hnil | ⟨i, k, hdrop⟩ := stepsLeft_eq_drop s
  · simp [hnil]
  · exact fun m hm => (program_stepsOf i).passesPayloadOn m (List.mem_of_mem_drop (hdrop ▸ hm))

theorem resume_mapPayload (f : TErr → TErr) (s : State) : resume (s.mapPayload f) = mapPayloadOutcome f (resume s) := by
  have hpass := stepsLeft_passPayloadOn (f := f) s
  have hleft : stepsLeft (s.mapPayload f) = stepsLeft s := rfl
  have hrun := runSteps_mapPayload f s hpass s.sstep.toNat
  rcases hfs : stepsLeft s with _ | ⟨m, fs⟩
  · simp [resume, hleft, hfs, mapPayloadOutcome]
  · have hm := hpass m (by simp [hfs]) s
    rw [hfs] at hrun
    simp only [resume, hleft, hfs, hm]
    cases m s with
    | go t => exact congrArg Host.Outcome.next hrun
    | stop t => exact congrArg Host.Outcome.next hrun
    | wait t => rfl

theorem step_mapPayload (f : TErr → TErr) (s : State) : step (s.mapPayload f) = mapPayloadOutcome f (step s) := by
  cases hb : s.busy with
  | true => rw [step_of_busy hb, step_of_busy (s := s.mapPayload f) hb, resume_mapPayload]
  | false =>
    rcases hops : s.hostOps with _ | ⟨w, rest⟩
    · simp [step, fetch, hb, hops, mapPayloadOutcome]
    · cases hw : decode w with
      | ok i =>
        simp only [step, fetch, mapPayload_busy, mapPayload_hostOps, hb, hops, hw]
        exact exec_mapPayload f i { s with hostOps := rest }
      | illegal op =>
        simp only [step, fetch, mapPayload_busy, mapPayload_hostOps, hb, hops, hw]
        rfl
      | malformed => simp [step, fetch, hb, hops, hw, mapPayloadOutcome]

/-- Settles O56: every step of every operation passes payloads on, and the sequencer does not look at them. -/
theorem transportPayloadIsOnlyPassedOn : Obligations.TransportPayloadIsOnlyPassedOn := fun f =>
  ⟨exec_mapPayload f, step_mapPayload f⟩

/-! ## Late answers -/

/-- Answers that arrive change the surroundings of the registers only. -/
def Surroundings.arrive (late : List Answer) (e : Surroundings) : Surroundings := { e with answers := e.answers ++ late }

theorem RegisterWrite.arrive (h : RegisterWrite gs g) (late : List Answer) (s : State) :
    g (arrive late s) = arrive late (g s) :=
  h.surround (Surroundings.arrive late) s

theorem ReadsRegisters.arrive {α : Type} {v : State → α} (h : ReadsRegisters v) (late : List Answer) (s : State) :
    v (arrive late s) = v s :=
  h (s.surroundings.arrive late) s

/-- A step that has its answer does the same with more answers behind it. -/
theorem SharedStep.arrive_go (h : SharedStep gs m) (hgo : m s = .go t) (late : List Answer) :
    m (arrive late s) = .go (arrive late t) := by
  cases h with
  | write hg => cases hgo; exact congrArg MicroResult.go (hg.arrive late s)
  | @check c _ k v w x hc hv hw hx =>
    by_cases h : c (w s)
    · obtain rfl := MicroResult.go.inj ((if_pos h).symm.trans hgo)
      have hcond : c (w (arrive late s)) := by rwa [hw.arrive, hc.arrive]
      exact (if_pos hcond).trans (congrArg MicroResult.go (hw.arrive late s))
    · exact absurd ((if_neg h).symm.trans hgo) (by simp)
  | @ack q before after onErr hq hbefore hafter honErr =>
    obtain ⟨rest, hans, hgo'⟩ | ⟨e, rest, -, hstop⟩ | hwait := ackStep_cases (q s) before after onErr s
    · obtain rfl := MicroResult.go.inj (hgo'.symm.trans hgo)
      have hans' : (arrive late s).answers = .ok :: (rest ++ late) := by simp [hans]
      rw [← hafter.arrive, ← hbefore.arrive, ← hq.arrive late s]
      exact ackStep_ok hans'
    · exact absurd (hstop.symm.trans hgo) (by simp)
    · exact absurd (hwait.symm.trans hgo) (by simp)
  | read n hbuffer =>
    obtain ⟨bs, rest, hans, hbs, hgo'⟩ | ⟨e, rest, free, -, -, hstop⟩ | hwait := busReadStep_cases n s
    · obtain rfl := MicroResult.go.inj (hgo'.symm.trans hgo)
      exact busReadStep_ok (by simp [hans]) hbs
    · exact absurd (hstop.symm.trans hgo) (by simp)
    · exact absurd (hwait.symm.trans hgo) (by simp)
  | delay us =>
    obtain ⟨rest, hans, hgo'⟩ | hwait := delayStep_cases us s
    · obtain rfl := MicroResult.go.inj (hgo'.symm.trans hgo)
      exact delayStep_ok (by simp [hans])
    · exact absurd (hwait.symm.trans hgo) (by simp)
  | item first haddress hopen =>
    obtain ⟨a, rest, hans, hgo'⟩ | ⟨e, rest, -, hstop⟩ | ⟨rest, -, hstop⟩ | hwait := searchItemStep_cases first s
    · obtain rfl := MicroResult.go.inj (hgo'.symm.trans hgo)
      exact searchItemStep_item (by simp [hans])
    · exact absurd (hstop.symm.trans hgo) (by simp)
    · exact absurd (hstop.symm.trans hgo) (by simp)
    · exact absurd (hwait.symm.trans hgo) (by simp)

/-- A step whose outcome, once it has its answer, is the same whatever request stands at the port. -/
def IgnoresPort (m : MicroStep) : Prop := ∀ q s, (∃ t, m (offer q s) = .wait t) ∨ m (offer q s) = m s

theorem ignoresPort_ask {α : Type} (p : BusRequest) (view : Answer → Option α) (k : α → MicroStep) :
    IgnoresPort (ask p view k) := by
  intro q s
  obtain hwait | ⟨ans, rest, v, hans, hv, hgo⟩ := ask_cases p view k (offer q s)
  · exact .inl ⟨_, hwait⟩
  · exact .inr (hgo.trans (ask_fits (s := s) hans hv).symm)

theorem ignoresPort_ackStep (q : BusRequest) (before after onErr : State → State) :
    IgnoresPort (ackStep q before after onErr) :=
  ignoresPort_ask _ _ _

/-- Only requests wait. -/
theorem SharedStep.ignoresPort_of_wait (h : SharedStep gs m) (hwait : m s = .wait t) : IgnoresPort m := by
  cases h with
  | write hg => cases hwait
  | @check c _ k v w x hc hv hw hx => dsimp only at hwait; split at hwait <;> cases hwait
  | @ack q before after onErr hq hbefore hafter honErr =>
    intro p s
    have hq' : q (offer p s) = q s := hq { s.surroundings with reqPort := some p } s
    simpa only [hq'] using ignoresPort_ackStep (q s) before after onErr p s
  | read n hbuffer => exact ignoresPort_ask _ _ _
  | delay us => exact ignoresPort_ask _ _ _
  | item first haddress hopen => exact ignoresPort_ask _ _ _

/-- The steps `fs`, run from number `n`, wait at their step `m`, `k` steps on, with the request `q`; and with more answers they
come to that step all the same. -/
structure WaitsAt (fs : List MicroStep) (n : Nat) (s : State) (k : Nat) (m : MicroStep) (rest : List MicroStep)
    (q : BusRequest) (u : State) : Prop where
  drop : fs.drop k = m :: rest
  ignoresPort : IgnoresPort m
  waits : m u = .wait (offer q u)
  run : runSteps fs n s = offer q u
  sstep : u.sstep = BitVec.ofNat 4 (n + k)
  curOp : u.curOp = s.curOp
  arrive : ∀ late, runSteps fs n (arrive late s) = runSteps (m :: rest) (n + k) (arrive late u)

theorem Program.waitsAt (h : Program gs fs) (hn : s.sstep = BitVec.ofNat 4 n)
    (hbusy : (runSteps fs n s).busy = true) : ∃ k m rest q u, WaitsAt fs n s k m rest q u := by
  induction h generalizing n s with
  | last hg => cases hbusy
  | unimplemented op => cases hbusy
  | @cons m fs hm hfs ih =>
    obtain ⟨t, hgo, ht⟩ | ⟨t, hstop, ht⟩ | ⟨q, hwait⟩ := hm.cases s
    · have hrun := fun late => runSteps_go (fs := fs) (n := n) (hm.arrive_go hgo late)
      rw [runSteps_go hgo] at hbusy
      obtain ⟨k, m', rest, q, u, hu⟩ := ih rfl hbusy
      have hk : n + (k + 1) = n + 1 + k := by omega
      exact ⟨k + 1, m', rest, q, u,
        { hu with
          run := (runSteps_go hgo).trans hu.run
          sstep := hk ▸ hu.sstep
          curOp := hu.curOp.trans ht.curOp
          arrive := fun late => (hrun late).trans (hk ▸ hu.arrive late) }⟩
    · rw [runSteps_stop hstop, ht.busy] at hbusy
      cases hbusy
    · exact ⟨0, m, fs, q, s, rfl, hm.ignoresPort_of_wait hwait, hwait, runSteps_wait hwait, hn, rfl, fun _ => rfl⟩

/-- All that `SEARCH` can do, by the answer at hand; the states it ends in are those of `searchTakesOneItem`. -/
theorem search_cases (first : Bool) (s : State) :
    (first = false ∧ s.so = false) ∨
    ((first = true ∨ s.so = true) ∧
      ((∃ a rest, s.answers = .item a :: rest) ∨ (∃ e rest, s.answers = .itemErr e :: rest) ∨
        (∃ rest, s.answers = .noMore :: rest) ∨
        exec (.search first) s = .next (offer (.searchNext first) (searchEntered 3 s)))) := by
  obtain ⟨hopen, -⟩ | ⟨hnext, hclosed, -⟩ := searchOpenCheck_cases first s
  · refine .inr ⟨hopen, ?_⟩
    obtain ⟨a, rest, hans, -⟩ | ⟨e, rest, hans, -⟩ | ⟨rest, hans, -⟩ | hwait :=
      searchItemStep_cases first (searchEntered 3 s)
    · exact .inl ⟨a, rest, hans⟩
    · exact .inr (.inl ⟨e, rest, hans⟩)
    · exact .inr (.inr (.inl ⟨rest, hans⟩))
    · exact .inr (.inr (.inr (congrArg Host.Outcome.next ((runOp_stepsSearch_open hopen).trans (runSteps_wait hwait)))))
  · exact .inl ⟨hnext, hclosed⟩

/-- A waiting `SEARCH` has its own request at the port. -/
theorem search_reqPort_of_busy {first : Bool} (he : exec (.search first) s = .next t) (hb : t.busy = true) :
    t.reqPort = some (.searchNext first) := by
  obtain ⟨hnext, hclosed⟩ | ⟨hopen, ⟨a, rest, hans⟩ | ⟨e, rest, hans⟩ | ⟨rest, hans⟩ | hwait⟩ := search_cases first s
  · obtain ⟨-, -, hrun⟩ := searchTakesOneItem first s [] 0#64 s.terr
    cases (hrun hnext hclosed).symm.trans he
    cases hb
  · obtain ⟨-, hrun, -⟩ := searchTakesOneItem first s rest a s.terr
    obtain ⟨hitem, hforeign, -⟩ := hrun hopen
    by_cases hfam : a.extractLsb' 0 8 = 0x28#8
    · cases (hitem hans hfam).symm.trans he
      cases hb
    · cases (hforeign hans hfam).symm.trans he
      cases hb
  · obtain ⟨-, hrun, -⟩ := searchTakesOneItem first s rest 0#64 e
    obtain ⟨-, -, hfailed, -⟩ := hrun hopen
    cases (hfailed hans).symm.trans he
    cases hb
  · obtain ⟨-, hrun, -⟩ := searchTakesOneItem first s rest 0#64 s.terr
    obtain ⟨-, -, -, hend⟩ := hrun hopen
    cases (hend hans).symm.trans he
    cases hb
  · cases hwait.symm.trans he
    rfl

/-- The four stubs end at once, with an error and without a session (R146, R147). -/
theorem stub_ends (hi : i ∈ [.searchAlarm, .loadScratchpad, .saveScratchpad, .readPowerSupply])
    (he : exec i s = .next t) : t.busy = false ∧ t.phase = .none ∧ statusIsError t.status = true := by
  obtain ⟨need, code, hcode⟩ : ∃ (need : Phase) (code : Byte), (i = .searchAlarm ∧ need = .selection ∧ code = 0xEC#8) ∨
      (i = .loadScratchpad ∧ need = .memory ∧ code = 0xB8#8) ∨ (i = .saveScratchpad ∧ need = .memory ∧ code = 0x48#8) ∨
      (i = .readPowerSupply ∧ need = .memory ∧ code = 0xB4#8) := by
    simp only [List.mem_cons, List.not_mem_nil, or_false] at hi
    obtain rfl | rfl | rfl | rfl := hi <;> simp
  obtain ⟨-, hunimplemented, hviolates⟩ := stubsEndUnimplemented i need code s hcode
  by_cases hp : s.phase = need
  · cases (hunimplemented hp).symm.trans he
    exact ⟨rfl, rfl, rfl⟩
  · cases (hviolates hp).symm.trans he
    exact ⟨rfl, rfl, rfl⟩

/-- A waiting block finds the steps of its operation again. -/
theorem stepsInProgress_of_busy (he : exec i s = .next t) (hb : t.busy = true) : stepsInProgress t = some (stepsOf i) := by
  have hop : t.curOp = opcode i := (exec_kept he).curOp
  have hpure : isPure i = false := Bool.eq_false_iff.mpr fun hpure => by
    obtain ⟨hidle, -⟩ := pureOperationsLeaveBusAndPhase i s t hpure he
    exact Bool.noConfusion (hidle.symm.trans hb)
  have hstub : i ∉ [.searchAlarm, .loadScratchpad, .saveScratchpad, .readPowerSupply] := fun hi => by
    obtain ⟨hidle, -⟩ := stub_ends hi he
    exact Bool.noConfusion (hidle.symm.trans hb)
  cases i <;> cases hpure
  case search first => simp [stepsInProgress, hop, opcode, search_reqPort_of_busy he hb, stepsOf]
  case searchAlarm => simp at hstub
  case loadScratchpad => simp at hstub
  case saveScratchpad => simp at hstub
  case readPowerSupply => simp at hstub
  all_goals simp [stepsInProgress, hop, opcode, stepsOf]

/-- The step counter's four bits hold every step's number. -/
theorem length_stepsOf_le (i : Instr) : (stepsOf i).length ≤ 13 := by
  cases i <;> exact Nat.le_of_ble_eq_true rfl

/-- Settles O8: with the late answers the operation comes to the step it waited at, and from there it does what the resumed
block does, since the request at the port is not looked at. -/
theorem lateAnswersMakeNoDifference : Obligations.LateAnswersMakeNoDifference := by
  intro i s t u late he hb hstep
  have hfs : stepsInProgress t = some (stepsOf i) := stepsInProgress_of_busy he hb
  obtain rfl := Host.Outcome.next.inj ((exec_eq i s).symm.trans he)
  obtain ⟨k, m, rest, q, v, hv⟩ := (program_stepsOf i).waitsAt (s := accepted i s) (n := 1) rfl hb
  have hrun : runOp (opcode i) (stepsOf i) (latch i s) = offer q v := hv.run
  rw [hrun] at hfs hstep hb
  have hk : k < (stepsOf i).length := by
    by_contra hk
    have := hv.drop
    rw [List.drop_eq_nil_of_le (by omega)] at this
    cases this
  have hnum : (arrive late (offer q v)).sstep.toNat = k + 1 := by
    have := length_stepsOf_le i
    simp [hv.sstep]
    omega
  have hleft : stepsLeft (arrive late (offer q v)) = m :: rest := (stepsLeft_eq hfs hnum).trans hv.drop
  have hresume : resume (arrive late (offer q v)) = .next u := step_of_busy (s := arrive late (offer q v)) hb ▸ hstep
  obtain rfl := resume_next hresume
  have hsame : m (offer q (arrive late v)) = m (arrive late v) := by
    obtain ⟨w, hw⟩ | hsame := hv.ignoresPort q (arrive late v)
    · exact absurd ((resume_eq_noAnswer hleft hw).symm.trans hresume) (by simp)
    · exact hsame
  calc exec i (arrive late s)
    _ = .next (runSteps (stepsOf i) 1 (accepted i (arrive late s))) := exec_eq i _
    _ = .next (runSteps (stepsOf i) 1 (arrive late (accepted i s))) := by
      rw [accepted, (latch_registerWrite i).arrive]; rfl
    _ = .next (runSteps (m :: rest) (1 + k) (arrive late v)) := by rw [hv.arrive]
    _ = .next (runSteps (m :: rest) (k + 1) (offer q (arrive late v))) := by
      rw [Nat.add_comm, runSteps_cons, runSteps_cons, hsame]
    _ = .next (runSteps (stepsLeft (arrive late (offer q v))) (arrive late (offer q v)).sstep.toNat
      (arrive late (offer q v))) := by rw [hleft, hnum]; rfl

end Sys2Proof.Machine
end

section
/-! The phase after an operation (60_exceptions.md R147, R150, R153). -/

namespace Sys2Proof.Machine

variable {i : Instr} {gs : List RegGroup} {op : Byte} {need : Phase} {fs fs' : List MicroStep} {n : Nat} {s t u : State}
  {rest : List Answer} {e : TErr}

/-! ## Another phase than the one needed -/

/-- Settles O16: after what precedes it, the phase check ends the command. -/
theorem wrongPhaseIsAProtocolViolation : Obligations.WrongPhaseIsAProtocolViolation := by
  intro i need s hneed hp
  have hrun : ∀ {op : Byte} {fs : List MicroStep} {n : Nat} {u : State}, u.phase = s.phase →
      runSteps (phaseCheck op need :: fs) n u = raise .protocolViolation op (setPhase .none u) := fun hu =>
    runSteps_phaseCheck_violates (hu ▸ hp)
  cases i <;> cases hneed
  case readAddress =>
    exact ⟨false, s.spv, s.opa, s.opw, congrArg Host.Outcome.next (hrun (u := readAddressEntered s) rfl), by simp⟩
  case readScratchpad =>
    exact ⟨s.av, false, s.opa, s.opw, congrArg Host.Outcome.next (hrun (u := readScratchpadEntered s) rfl), by simp⟩
  case matchAddress a => exact ⟨s.av, s.spv, a, s.opw, congrArg Host.Outcome.next (hrun rfl), by simp⟩
  case writeScratchpad th tl res =>
    exact ⟨s.av, s.spv, s.opa, ⟨th, tl, cfgOf res⟩, congrArg Host.Outcome.next (hrun rfl), by simp⟩
  all_goals exact ⟨s.av, s.spv, s.opa, s.opw, congrArg Host.Outcome.next (hrun rfl), by simp⟩

/-! ## The phase of each operation that has ended -/

/-- Steps that do not write the phase leave it consumed. -/
theorem Program.phase_none (h : Program gs fs) (hphase : .phase ∉ gs) (hs : s.phase = .none) :
    (runSteps fs n s).phase = .none := by
  have hsame : (runSteps fs n s).phase = s.phase := (h.kept n s).sameGroup .phase hphase
  exact hsame.trans hs

/-- A command whose frame and what follows it do not write the phase leaves it consumed, whatever it was. -/
theorem runSteps_command_phase (h : Program gs fs) (hphase : .phase ∉ gs) :
    (runSteps (phaseCheck op need :: regs (setPhase .none) :: fs) n s).phase = .none := by
  by_cases hp : s.phase = need
  · rw [runSteps_phaseCheck_consumes hp]
    exact h.phase_none hphase rfl
  · rw [runSteps_phaseCheck_violates hp]
    rfl

/-- A selection command waits, ends with an error and no session, or opens the memory phase from the selection phase. -/
theorem runSteps_select_cases {frame : State → List Byte} (hb : s.busy = true) :
    let t := runSteps (phaseCheck op .selection :: regs (setPhase .none) :: (fun s => busWriteStep (frame s) id id s) ::
      [regs fun s => report .ok (setPhase .memory s)]) n s
    t.busy = true ∨ (t.phase = .none ∧ statusIsError t.status = true) ∨
      (s.phase = .selection ∧ t.phase = .memory ∧ t.status = .ok) := by
  by_cases hp : s.phase = .selection
  · obtain ⟨rest, hans, -⟩ | ⟨e, rest, hans, -⟩ | hwait :=
      ackStep_cases (.write (frame (phaseConsumed (n + 2) s))) id id id (phaseConsumed (n + 2) s)
    · rw [runSteps_select_ok hp hans rfl]
      exact .inr (.inr ⟨hp, rfl, rfl⟩)
    · rw [runSteps_command_err hp hans rfl]
      exact .inr (.inl ⟨rfl, rfl⟩)
    · rw [runSteps_phaseCheck_consumes hp, runSteps_wait (f := fun s => busWriteStep (frame s) id id s) hwait]
      exact .inl hb
  · rw [runSteps_phaseCheck_violates hp]
    exact .inr (.inl ⟨rfl, rfl⟩)

/-- `BUS_RESET` waits, ends with an error and no session, or opens the selection phase (R110). -/
theorem busReset_cases (he : exec .busReset s = .next t) :
    t.busy = true ∨ (t.phase = .none ∧ statusIsError t.status = true) ∨ (t.phase = .selection ∧ t.status = .ok) := by
  obtain ⟨-, hrun⟩ := busResetOpensTheSelectionPhase
  obtain ⟨rest, hans, -⟩ | ⟨e, rest, hans, -⟩ | hwait := ackStep_cases .reset id id (setPhase .none) (busResetEntered s)
  · obtain ⟨hok, -⟩ := hrun s rest
    cases (hok hans).symm.trans he
    exact .inr (.inr ⟨rfl, rfl⟩)
  · obtain ⟨-, herr⟩ := hrun s rest
    cases (herr e hans).symm.trans he
    exact .inr (.inl ⟨rfl, rfl⟩)
  · obtain rfl := Host.Outcome.next.inj he
    rw [runOp_stepsBusReset, runSteps_wait hwait]
    exact .inl rfl

/-- An operation that leaves no session where it has ended. -/
def ClosesSession (t : State) : Prop := t.busy = false → t.phase = .none

theorem runSteps_ackStep_closes {q : BusRequest} {before after onErr : State → State} (hb : s.busy = true)
    (herr : ∀ e rest, (onErr (before (takeAnswer q (.err e) rest s))).phase = .none)
    (hok : ∀ rest, ClosesSession
      (runSteps fs (n + 1) { after (before (takeAnswer q .ok rest s)) with sstep := BitVec.ofNat 4 (n + 1) })) :
    ClosesSession (runSteps (ackStep q before after onErr :: fs) n s) := by
  obtain ⟨rest, hans, -⟩ | ⟨e, rest, hans, -⟩ | hwait := ackStep_cases q before after onErr s
  · rw [runSteps_ackStep_ok hans]
    exact hok rest
  · rw [runSteps_ackStep_err hans]
    exact fun _ => herr e rest
  · rw [runSteps_wait hwait]
    exact fun hidle => Bool.noConfusion (hidle.symm.trans hb)

theorem runSteps_delayStep_closes {us : Nat} (hb : s.busy = true)
    (hok : ∀ rest, ClosesSession
      (runSteps fs (n + 1) { takeAnswer (.delay us) .ok rest s with sstep := BitVec.ofNat 4 (n + 1) })) :
    ClosesSession (runSteps (delayStep us :: fs) n s) := by
  obtain ⟨rest, -, hgo⟩ | hwait := delayStep_cases us s
  · rw [runSteps_go hgo]
    exact hok rest
  · rw [runSteps_wait hwait]
    exact fun hidle => Bool.noConfusion (hidle.symm.trans hb)

/-- `TEMPERATURE` opens phases on its way and leaves none (R131): each of its errors closes the session, and from its last
command on the phase is consumed. -/
theorem temperature_closes (a : Addr) (s : State) : ClosesSession (runOp 0x0A#8 stepsTemperature (latchAddr a s)) :=
  runSteps_ackStep_closes rfl (fun _ _ => rfl) fun _ =>
  runSteps_ackStep_closes rfl (fun _ _ => rfl) fun _ =>
  runSteps_ackStep_closes rfl (fun _ _ => rfl) fun _ =>
  runSteps_delayStep_closes rfl fun _ =>
  runSteps_ackStep_closes rfl (fun _ _ => rfl) fun _ =>
  runSteps_ackStep_closes rfl (fun _ _ => rfl) fun _ =>
  runSteps_ackStep_closes rfl (fun _ _ => rfl) fun _ _ =>
  ((segment_receive Config.nSp).append_program (gs := [.buffer, .crcUnit, .decoded])
    (program_loadDecoded.mono (by decide))).phase_none (by decide) rfl

/-- The cells of R150's table for an operation that has ended: a pure operation leaves the phase; `BUS_RESET` and the two
selection commands open one where they end with `OK`; every other end closes the session, as the table has it. -/
theorem exec_phase_cases (he : exec i s = .next t) (hb : t.busy = false) :
    (isPure i = true ∧ t.phase = s.phase) ∨
    (isPure i = false ∧ t.phase = .none ∧ ∀ p, phaseAfter i p (!statusIsError t.status) = .none) ∨
    (i = .busReset ∧ t.phase = .selection ∧ t.status = .ok) ∨
    ((i = .skipAddress ∨ ∃ a, i = .matchAddress a) ∧ s.phase = .selection ∧ t.phase = .memory ∧ t.status = .ok) := by
  have hbusy : t.busy ≠ true := by simp [hb]
  by_cases hpure : isPure i = true
  · obtain ⟨-, hphase, -⟩ := pureOperationsLeaveBusAndPhase i s t hpure he
    exact .inl ⟨hpure, hphase⟩
  cases i with
  | busReset =>
    obtain hwait | ⟨hphase, herr⟩ | ⟨hphase, hok⟩ := busReset_cases he
    · exact absurd hwait hbusy
    · exact .inr (.inl ⟨rfl, hphase, fun p => by simp [phaseAfter, herr]⟩)
    · exact .inr (.inr (.inl ⟨rfl, hphase, hok⟩))
  | matchAddress a =>
    cases he
    obtain hwait | ⟨hphase, herr⟩ | hopen := runSteps_select_cases (s := accept 0x55#8 (latchAddr a s)) (op := 0x55#8)
      (n := 1) (frame := fun s => Config.cmdMatchAddress :: addrBytes s.opa) rfl
    · exact absurd hwait hbusy
    · exact .inr (.inl ⟨rfl, hphase, fun p => congrArg (fun b => if !b then Phase.memory else .none) herr⟩)
    · exact .inr (.inr (.inr ⟨.inr ⟨a, rfl⟩, hopen⟩))
  | skipAddress =>
    cases he
    obtain hwait | ⟨hphase, herr⟩ | hopen := runSteps_select_cases (s := accept 0xCC#8 s) (op := 0xCC#8) (n := 1)
      (frame := fun _ => [Config.cmdSkipAddress]) rfl
    · exact absurd hwait hbusy
    · exact .inr (.inl ⟨rfl, hphase, fun p => congrArg (fun b => if !b then Phase.memory else .none) herr⟩)
    · exact .inr (.inr (.inr ⟨.inl rfl, hopen⟩))
  | temperature a => cases he; exact .inr (.inl ⟨rfl, temperature_closes a s hb, fun _ => rfl⟩)
  | search first =>
    cases he
    exact .inr (.inl ⟨rfl, (program_search_item first).phase_none (s := searchEntered 2 s) (by decide) rfl, fun _ => rfl⟩)
  | readAddress =>
    cases he
    exact .inr (.inl ⟨rfl, runSteps_command_phase (s := readAddressEntered s) program_readAddress_frame (by decide),
      fun _ => rfl⟩)
  | readScratchpad =>
    cases he
    exact .inr (.inl ⟨rfl, runSteps_command_phase (s := readScratchpadEntered s) program_readScratchpad_frame (by decide),
      fun _ => rfl⟩)
  | writeScratchpad th tl res =>
    cases he
    exact .inr (.inl ⟨rfl, runSteps_command_phase program_writeScratchpad_frame (by decide), fun _ => rfl⟩)
  | convertTemperature =>
    cases he
    exact .inr (.inl ⟨rfl, runSteps_command_phase program_convertTemperature_frame (by decide), fun _ => rfl⟩)
  | searchAlarm => obtain ⟨-, hphase, -⟩ := stub_ends (by simp) he; exact .inr (.inl ⟨rfl, hphase, fun _ => rfl⟩)
  | loadScratchpad => obtain ⟨-, hphase, -⟩ := stub_ends (by simp) he; exact .inr (.inl ⟨rfl, hphase, fun _ => rfl⟩)
  | saveScratchpad => obtain ⟨-, hphase, -⟩ := stub_ends (by simp) he; exact .inr (.inl ⟨rfl, hphase, fun _ => rfl⟩)
  | readPowerSupply => obtain ⟨-, hphase, -⟩ := stub_ends (by simp) he; exact .inr (.inl ⟨rfl, hphase, fun _ => rfl⟩)
  | _ => exact absurd rfl hpure

theorem phaseAfter_of_isPure (h : isPure i = true) (p : Phase) (ok : Bool) : phaseAfter i p ok = p := by
  cases i <;> cases h <;> rfl

/-- Settles O17: cell by cell. -/
theorem phaseFollowsTheTransitionTable : Obligations.PhaseFollowsTheTransitionTable := by
  intro i s t he hb
  obtain ⟨hpure, hphase⟩ | ⟨-, hphase, hcell⟩ | ⟨rfl, hphase, hok⟩ | ⟨rfl | ⟨a, rfl⟩, -, hphase, hok⟩ :=
    exec_phase_cases he hb
  · rw [hphase, phaseAfter_of_isPure hpure]
  · rw [hphase, hcell]
  · rw [hphase, hok]; rfl
  · rw [hphase, hok]; rfl
  · rw [hphase, hok]; rfl

/-- Settles O18: a phase other than `NONE` is there after an operation that kept it or opened it. -/
theorem onlySelectionReachesTheMemoryPhase : Obligations.OnlySelectionReachesTheMemoryPhase := by
  intro i s t he hb
  obtain ⟨hpure, hphase⟩ | ⟨-, hphase, -⟩ | ⟨rfl, hphase, hok⟩ | ⟨hselect, hbefore, hphase, hok⟩ := exec_phase_cases he hb
  · exact ⟨fun h => .inl ⟨hphase.symm.trans h, hpure⟩, fun h => .inl ⟨hphase.symm.trans h, hpure⟩⟩
  · exact ⟨fun h => absurd (hphase.symm.trans h) (by simp), fun h => absurd (hphase.symm.trans h) (by simp)⟩
  · exact ⟨fun h => absurd (hphase.symm.trans h) (by simp), fun _ => .inr ⟨rfl, hok⟩⟩
  · exact ⟨fun _ => .inr ⟨hbefore, hok, hselect⟩, fun h => absurd (hphase.symm.trans h) (by simp)⟩

/-- Settles O52: an operation that opened a phase did not end with an error. -/
theorem errorsOfBusOperationsCloseTheSession : Obligations.ErrorsOfBusOperationsCloseTheSession := by
  intro i s t he hb herr
  have hok : t.status ≠ .ok := fun hok => by rw [hok] at herr; cases herr
  obtain ⟨hpure, hphase⟩ | ⟨hbus, hphase, -⟩ | ⟨-, -, h⟩ | ⟨-, -, -, h⟩ := exec_phase_cases he hb
  · exact ⟨fun hbus => absurd (hpure.symm.trans hbus) (by simp), fun _ => hphase⟩
  · exact ⟨fun _ => hphase, fun hpure => absurd (hpure.symm.trans hbus) (by simp)⟩
  · exact absurd h hok
  · exact absurd h hok

end Sys2Proof.Machine
end

section
/-! The result registers (R11, R14 to R16, R21, R22): the steps up to the check of what was read do not write them. -/

namespace Sys2Proof.Machine

variable {i : Instr} {gs : List RegGroup} {fs fs' : List MicroStep} {n : Nat} {s t u : State}

/-- The middle of an operation ends it or waits, or comes to what follows. -/
theorem Segment.runSteps_cases (h : Segment gs fs) (n : Nat) (s : State) :
    Kept gs s (runSteps (fs ++ fs') n s) ∨
    ∃ u k, GoesOn gs s u ∧ runSteps (fs ++ fs') n s = runSteps fs' k u := by
  induction fs generalizing n s with
  | nil => exact .inr ⟨s, n, registerWrite_id.goesOn s, rfl⟩
  | cons m fs ih =>
    obtain ⟨hm, hfs⟩ := List.forall_mem_cons.mp h
    rw [List.cons_append]
    obtain ⟨t, hgo, ht⟩ | ⟨t, hstop, ht⟩ | ⟨q, hwait⟩ := hm.cases s
    · rw [runSteps_go hgo]
      have ht := ht.sstep (BitVec.ofNat 4 (n + 1))
      obtain hkept | ⟨u, k, hu, hrun⟩ := ih hfs (n + 1) { t with sstep := BitVec.ofNat 4 (n + 1) }
      · exact .inl (ht.toKept.trans hkept)
      · exact .inr ⟨u, k, ht.trans hu, hrun⟩
    · exact .inl (runSteps_stop hstop ▸ ht.toKept)
    · exact .inl (runSteps_wait hwait ▸ (registerWrite_id.goesOn s).toKept.offer q)

/-- The decoded registers are unchanged, or they have been loaded from `BUF` and the operation has ended with `OK`. -/
def DecodedOrKept (s t : State) : Prop :=
  (t.temp = s.temp ∧ t.th = s.th ∧ t.tl = s.tl ∧ t.cfg = s.cfg) ∨
  (t.spv = true ∧ t.status = .ok ∧ t.busy = false ∧
    t.temp = t.buf.b0 ++ t.buf.b1 ∧ t.th = t.buf.b2 ∧ t.tl = t.buf.b3 ∧ t.cfg = t.buf.b4)

/-- Steps that do not write the decoded registers, and then the configuration check that guards them. -/
theorem Segment.decodedOrKept (h : Segment gs fs) (hdecoded : .decoded ∉ gs) (n : Nat) (s : State) :
    DecodedOrKept s (runSteps (fs ++ [cfgCheckStep, regs loadDecoded, succeed]) n s) := by
  obtain hkept | ⟨u, k, hu, hrun⟩ := h.runSteps_cases n s
  · obtain ⟨htemp, hth, htl, hcfg, -⟩ := hkept.sameGroup .decoded hdecoded
    exact .inl ⟨htemp, hth, htl, hcfg⟩
  · obtain ⟨htemp, hth, htl, hcfg, -⟩ := hu.sameGroup .decoded hdecoded
    rw [hrun]
    by_cases hmask : (u.buf.b4 &&& 0x9F#8) = 0x1F#8
    · rw [runSteps_cfgCheck_loadDecoded hmask]
      exact .inr ⟨rfl, rfl, rfl, rfl, rfl, rfl, rfl⟩
    · rw [runSteps_cfgCheck_raise hmask]
      exact .inl ⟨htemp, hth, htl, hcfg⟩

theorem exec_decodedOrKept (he : exec i s = .next t) : DecodedOrKept s t := by
  have hkept : .decoded ∉ groupsWritten i → DecodedOrKept s t := fun hdecoded => by
    obtain ⟨htemp, hth, htl, hcfg, -⟩ := exec_sameGroup (x := .decoded) he hdecoded
    exact .inl ⟨htemp, hth, htl, hcfg⟩
  cases i
  case spDecode img => cases he; exact (Segment.nil (gs := [])).decodedOrKept (by decide) 2 _
  case readScratchpad =>
    cases he
    exact (segment_command ((segment_exchange Config.cmdReadScratchpad Config.nSp).mono
      (hs := [.phase, .buffer, .crcUnit]) (by decide)) (by decide)).decodedOrKept (by decide) 2 (readScratchpadEntered s)
  case temperature a => cases he; exact segment_temperature.decodedOrKept (by decide) 2 _
  all_goals exact hkept (by simp [groupsWritten])

/-- `A` is unchanged, or it holds an address that passed its check, or one of another family (R11, R21). -/
def AddressedOrKept (s t : State) : Prop :=
  t.a = s.a ∨ t.busy = false ∧
    ((t.av = true ∧ t.status = .ok) ∨ (t.av = false ∧ t.status = .familyCode ∧ t.info = familyOf t.a))

theorem search_addressedOrKept {first : Bool} (he : exec (.search first) s = .next t) : AddressedOrKept s t := by
  obtain ⟨hnext, hclosed⟩ | ⟨hopen, ⟨a, rest, hans⟩ | ⟨e, rest, hans⟩ | ⟨rest, hans⟩ | hwait⟩ := search_cases first s
  · obtain ⟨-, -, hrun⟩ := searchTakesOneItem first s [] 0#64 s.terr
    cases (hrun hnext hclosed).symm.trans he
    exact .inl rfl
  · obtain ⟨-, hrun, -⟩ := searchTakesOneItem first s rest a s.terr
    obtain ⟨hitem, hforeign, -⟩ := hrun hopen
    by_cases hfam : a.extractLsb' 0 8 = 0x28#8
    · cases (hitem hans hfam).symm.trans he
      exact .inr ⟨rfl, .inl ⟨rfl, rfl⟩⟩
    · cases (hforeign hans hfam).symm.trans he
      exact .inr ⟨rfl, .inr ⟨rfl, rfl, rfl⟩⟩
  · obtain ⟨-, hrun, -⟩ := searchTakesOneItem first s rest 0#64 e
    obtain ⟨-, -, hfailed, -⟩ := hrun hopen
    cases (hfailed hans).symm.trans he
    exact .inl rfl
  · obtain ⟨-, hrun, -⟩ := searchTakesOneItem first s rest 0#64 s.terr
    obtain ⟨-, -, -, hend⟩ := hrun hopen
    cases (hend hans).symm.trans he
    exact .inl rfl
  · cases hwait.symm.trans he
    exact .inl rfl

theorem exec_addressedOrKept (he : exec i s = .next t) : AddressedOrKept s t := by
  have hkept : .address ∉ groupsWritten i → AddressedOrKept s t := fun haddress => by
    obtain ⟨ha, -⟩ := exec_sameGroup (x := .address) he haddress
    exact .inl ha
  cases i
  case search first => exact search_addressedOrKept he
  case readAddress =>
    cases he
    obtain hkept | ⟨u, k, hu, hrun⟩ := (segment_command (op := 0x33#8) (need := .selection)
      ((segment_exchange Config.cmdReadAddress Config.nAddr).mono (hs := [.phase, .buffer, .crcUnit]) (by decide))
      (by decide)).runSteps_cases (fs' := stepsReadAddress.drop 6) 2 (readAddressEntered s)
    · obtain ⟨ha, -⟩ := hkept.sameGroup .address (by decide)
      exact .inl ha
    · have hrun : runOp 0x33#8 stepsReadAddress s = runSteps (stepsReadAddress.drop 6) k u := hrun
      rw [hrun]
      exact .inr ⟨rfl, .inl ⟨rfl, rfl⟩⟩
  all_goals exact hkept (by simp [groupsWritten])

/-- Settles O21: where the registers have changed, the first case of each is out. -/
theorem resultRegistersChangeOnlyOnSuccess : Obligations.ResultRegistersChangeOnlyOnSuccess := by
  intro i s t he
  refine ⟨fun hchanged => ?_, fun hchanged => (exec_addressedOrKept he).resolve_left hchanged⟩
  obtain ⟨htemp, hth, htl, hcfg⟩ | hdecoded := exec_decodedOrKept he
  · simp [htemp, hth, htl, hcfg] at hchanged
  · exact hdecoded

end Sys2Proof.Machine
end

section
/-! `CONVERT_TEMPERATURE` and `TEMPERATURE` request by request (R122, R131). -/

namespace Sys2Proof.Machine

variable {s : State} {a : Addr} {rest : List Answer} {e : TErr} {done : Nat}

/-! ## `CONVERT_TEMPERATURE` -/

/-- `CONVERT_TEMPERATURE` that has written its frame and comes to the wait (R122 s4). -/
def convertTemperatureSent (rest : List Answer) (s : State) : State :=
  { s with
    phase := .none, answers := rest, bus := s.bus ++ [⟨.write [0x44#8], .ok, [0x44#8]⟩],
    busy := true, curOp := 0x44#8, sstep := 4#4, reqPort := none }

theorem runOp_stepsConvertTemperature_sent (hp : s.phase = .memory) (h : s.answers = .ok :: rest) :
    runOp 0x44#8 stepsConvertTemperature s =
      runSteps [delayStep 750000, succeed] 4 (convertTemperatureSent rest s) :=
  runSteps_command_ok (s := accept 0x44#8 s) hp h rfl

/-- Settles O46: the phase check, the answer to the frame and the answer to the wait decide in turn. -/
theorem convertTemperatureWritesThenWaits : Obligations.ConvertTemperatureWritesThenWaits := by
  refine ⟨rfl, fun s rest e => ⟨fun hp h => congrArg Host.Outcome.next ?done, fun hp h => congrArg Host.Outcome.next ?waits,
    fun hp h => ⟨Config.freeSentLength s.draws, s.draws + 1, congrArg Host.Outcome.next ?err⟩,
    fun hp => congrArg Host.Outcome.next ?violation⟩⟩
  case done =>
    rw [List.append_cons, runOp_stepsConvertTemperature_sent hp h,
      runSteps_go (delayStep_ok (s := convertTemperatureSent (.ok :: rest) s) (rest := rest) rfl), runSteps_succeed]
    rfl
  case waits =>
    rw [runOp_stepsConvertTemperature_sent hp h]
    exact runSteps_wait (ask_none (s := convertTemperatureSent [] s) rfl)
  case err => exact runSteps_command_err (s := accept 0x44#8 s) hp h rfl
  case violation => exact runSteps_phaseCheck_violates hp

/-! ## `TEMPERATURE` up to its `done`-th request -/

/-- The requests of `TEMPERATURE`, in their order (R131). -/
def temperatureRequests (a : Addr) : List BusRequest :=
  let w9 := BusRequest.write (0x55#8 :: addrBytes a)
  [.reset, w9, .write [0x44#8], .delay 750000, .reset, w9, .write [0xBE#8], .read 9]

/-- The exchange of a request that is answered `OK`. -/
def okEvent (q : BusRequest) : BusEvent := ⟨q, .ok, match q with | .write bytes => bytes | _ => []⟩

/-- `PHASE` at each request of `TEMPERATURE`, as the steps before it leave it (R131). -/
def temperaturePhase (before : Phase) : Nat → Phase
  | 0 => before
  | 1 => .selection
  | 2 => .memory
  | 5 => .selection
  | 6 => .memory
  | _ => .none

/-- `TEMPERATURE` that comes to its request number `done`, the ones before it having been answered `OK`. -/
def temperatureAt (a : Addr) (done : Nat) (rest : List Answer) (s : State) : State :=
  { s with
    spv := false, so := false, phase := temperaturePhase s.phase done, opa := a, answers := rest,
    bus := s.bus ++ ((temperatureRequests a).take done).map okEvent,
    busy := true, curOp := 0x0A#8, sstep := BitVec.ofNat 4 (done + 2), reqPort := none }

/-- The match frame of the latched address, answered `OK` (R131 s3, s7). -/
theorem temperatureSelect_ok (h : s.answers = .ok :: rest) :
    temperatureSelect s =
      .go (setPhase .memory (setPhase .none (takeAnswer (.write (0x55#8 :: addrBytes s.opa)) .ok rest s))) :=
  ackStep_ok h

theorem temperatureSelect_err (h : s.answers = .err e :: rest) :
    temperatureSelect s =
      .stop (transportError e (setPhase .none (takeAnswer (.write (0x55#8 :: addrBytes s.opa)) (.err e) rest s))) :=
  ackStep_err h

/-- An answered request of `TEMPERATURE` joins the record, and its step leaves `PHASE` as the next request finds it. -/
theorem temperatureAt_succ {q : BusRequest} (hq : (temperatureRequests a)[done]? = some q) :
    { takeAnswer q .ok rest (temperatureAt a done (.ok :: rest) s) with
      phase := temperaturePhase s.phase (done + 1), sstep := BitVec.ofNat 4 (done + 3) } =
    temperatureAt a (done + 1) rest s := by
  cases q <;> simp [takeAnswer, temperatureAt, List.take_add_one, hq, okEvent, wireOf, drawsOf]

/-- A step that goes on after its request brings `TEMPERATURE` to the next one. -/
theorem runSteps_temperatureAt_go {q : BusRequest} {m : MicroStep} (hq : (temperatureRequests a)[done]? = some q)
    (hstep : stepsTemperature.drop (done + 1) = m :: stepsTemperature.drop (done + 2))
    (hgo : m (temperatureAt a done (.ok :: rest) s) =
      .go { takeAnswer q .ok rest (temperatureAt a done (.ok :: rest) s) with
        phase := temperaturePhase s.phase (done + 1) }) :
    runSteps (stepsTemperature.drop (done + 1)) (done + 2) (temperatureAt a done (.ok :: rest) s) =
      runSteps (stepsTemperature.drop (done + 2)) (done + 3) (temperatureAt a (done + 1) rest s) := by
  rw [hstep, runSteps_go hgo, ← temperatureAt_succ hq]

/-- The step that makes request number `done` goes on to the next, after `OK`. -/
theorem runSteps_temperatureAt_ok (h : done < 7) :
    runSteps (stepsTemperature.drop (done + 1)) (done + 2) (temperatureAt a done (.ok :: rest) s) =
      runSteps (stepsTemperature.drop (done + 2)) (done + 3) (temperatureAt a (done + 1) rest s) := by
  interval_cases done
  · exact runSteps_temperatureAt_go (q := .reset) rfl rfl (ackStep_ok rfl)
  · exact runSteps_temperatureAt_go (q := .write (0x55#8 :: addrBytes a)) rfl rfl (temperatureSelect_ok rfl)
  · exact runSteps_temperatureAt_go (q := .write [0x44#8]) rfl rfl (ackStep_ok rfl)
  · exact runSteps_temperatureAt_go (q := .delay 750000) rfl rfl (delayStep_ok rfl)
  · exact runSteps_temperatureAt_go (q := .reset) rfl rfl (ackStep_ok rfl)
  · exact runSteps_temperatureAt_go (q := .write (0x55#8 :: addrBytes a)) rfl rfl (temperatureSelect_ok rfl)
  · exact runSteps_temperatureAt_go (q := .write [0xBE#8]) rfl rfl (ackStep_ok rfl)

theorem runOp_temperature_reaches (h : done ≤ 7) (hans : s.answers = List.replicate done .ok ++ rest) :
    runOp 0x0A#8 stepsTemperature (latchAddr a s) =
      runSteps (stepsTemperature.drop (done + 1)) (done + 2) (temperatureAt a done rest s) := by
  induction done generalizing rest with
  | zero =>
    have hstart : temperatureAt a 0 rest s =
        { accept 0x0A#8 (latchAddr a s) with spv := false, so := false, sstep := 2#4 } := by
      obtain rfl : s.answers = rest := hans
      simp [temperatureAt, temperaturePhase, accept, latchAddr]
    rw [hstart]
    rfl
  | succ k ih =>
    rw [ih (by omega) (rest := .ok :: rest) (by rw [hans, List.replicate_succ', List.append_assoc]; rfl)]
    exact runSteps_temperatureAt_ok (by omega)

/-! ## The whole operation -/

/-- `TEMPERATURE` with every request before the read answered `OK` comes to the read of the image. -/
theorem runOp_temperature_reads (h : s.answers = List.replicate 7 .ok ++ rest) :
    runOp 0x0A#8 stepsTemperature (latchAddr a s) =
      runSteps [busReadStep 9, crcCheckStep 9, cfgCheckStep, regs loadDecoded, succeed] 9 (temperatureAt a 7 rest s) :=
  runOp_temperature_reaches (by decide) h

/-- Settles O48: the seven exchanges before the read, then the CRC check and the configuration check. -/
theorem temperatureConvertsAndReads : Obligations.TemperatureConvertsAndReads := by
  intro a s rest b0 b1 b2 b3 b4 b5 b6 b7 b8 bs w9 traffic
  have htraffic : traffic = (temperatureAt a 7 (.bytes bs :: rest) s).bus ++ [⟨.read 9, .bytes bs, []⟩] :=
    (List.append_assoc s.bus (((temperatureRequests a).take 7).map okEvent) _).symm
  rw [htraffic]
  refine ⟨rfl, fun h => ⟨fun hcrc hcfg => congrArg Host.Outcome.next ?valid,
    fun hcrc => congrArg Host.Outcome.next ?mismatch, fun hcrc hcfg => congrArg Host.Outcome.next ?invalid⟩⟩
  case valid =>
    rw [runOp_temperature_reads h, runSteps_receive_pass (k := 9) (bs := bs) (rest := rest) rfl rfl le_rfl hcrc,
      runSteps_cfgCheck_loadDecoded hcfg, received, hcrc]
    rfl
  case mismatch =>
    rw [runOp_temperature_reads h, runSteps_receive_mismatch (k := 9) (bs := bs) (rest := rest) rfl rfl le_rfl hcrc]
    rfl
  case invalid =>
    rw [runOp_temperature_reads h, runSteps_receive_pass (k := 9) (bs := bs) (rest := rest) rfl rfl le_rfl hcrc,
      runSteps_cfgCheck_raise hcfg, received, hcrc]
    rfl

/-- Each request but the wait ends `TEMPERATURE` where it is answered `ERR(e)`. -/
theorem runSteps_temperatureAt_err (h : done < 7) (hdelay : done ≠ 3) :
    runSteps (stepsTemperature.drop (done + 1)) (done + 2) (temperatureAt a done (.err e :: rest) s) =
      transportError e (setPhase .none (takeAnswer ((temperatureRequests a).getD done .reset) (.err e) rest
        (temperatureAt a done (.err e :: rest) s))) := by
  interval_cases done
  · exact runSteps_ackStep_err rfl
  · exact runSteps_stop (temperatureSelect_err rfl)
  · exact runSteps_ackStep_err rfl
  · exact absurd rfl hdelay
  · exact runSteps_ackStep_err rfl
  · exact runSteps_stop (temperatureSelect_err rfl)
  · exact runSteps_ackStep_err rfl

/-- What reached the wire of a request that is answered `ERR(e)` (R42). -/
theorem wireOf_err (draws : Nat) (q : BusRequest) (e : TErr) :
    wireOf draws q (.err e) = match q with | .write bytes => bytes.take (Config.freeSentLength draws) | _ => [] := by
  cases q <;> rfl

/-- Settles O49: after the requests answered `OK` comes the one that is not. -/
theorem temperatureStopsAtItsFirstFailure : Obligations.TemperatureStopsAtItsFirstFailure := by
  intro a s rest e done w9 requests hlt hdelay h
  have hreach := runOp_temperature_reaches (a := a) (Nat.le_of_lt_succ hlt) h
  obtain rfl | hlt := Nat.eq_or_lt_of_le (Nat.le_of_lt_succ hlt)
  · obtain ⟨free, -, hstop⟩ := busReadStep_err (n := 9) (s := temperatureAt a 7 (.err e :: rest) s) rfl
    exact ⟨fillImage free s.buf, 0, s.draws + 9, by simp, congrArg Host.Outcome.next (hreach.trans (runSteps_stop hstop))⟩
  · refine ⟨s.buf, Config.freeSentLength s.draws, s.draws + drawsOf (requests.getD done .reset) (.err e), fun _ => rfl,
      congrArg Host.Outcome.next ?_⟩
    rw [hreach, runSteps_temperatureAt_err hlt hdelay, takeAnswer, wireOf_err]
    rfl

end Sys2Proof.Machine
end

section
/-! `TEMPERATURE` and its six-operation program (R132), request by request: the two are in step until one answer ends both. -/

namespace Sys2Proof.Machine

variable {a : Addr} {v₀ : Bool} {s t sT sP : State} {is : List Instr} {i : Instr} {fs fsT fsP : List MicroStep} {n m : Nat}
  {q : BusRequest} {befT aftT errT befP aftP errP : State → State}

/-! ## A program after the operation it has just run -/

/-- A program goes on with `is` where the operation has ended with `OK`, and stops otherwise. -/
def continueProgram (is : List Instr) (t : State) : Host.Outcome State Fault Refusal :=
  if t.busy = false ∧ t.status = .ok then runProgram is t else .next t

theorem runProgram_cons (i : Instr) (is : List Instr) (s : State) :
    runProgram (i :: is) s = continueProgram is (runOp (opcode i) (stepsOf i) (latch i s)) := by
  simp only [runProgram, exec_eq, continueProgram]

/-- An operation whose last step reports `OK` hands over to the next. -/
theorem continueProgram_report (g : State → State) :
    continueProgram is (runSteps [regs fun s => report .ok (g s)] n s) = runProgram is (raise .ok 0x00#8 (g s)) :=
  if_pos ⟨rfl, rfl⟩

theorem continueProgram_succeed : continueProgram is (runSteps [succeed] n s) = runProgram is (raise .ok 0x00#8 s) := by
  rw [runSteps_succeed]
  exact if_pos ⟨rfl, rfl⟩

theorem continueProgram_of_busy (hb : t.busy = true) : continueProgram is t = .next t :=
  if_neg fun h => Bool.noConfusion (hb.symm.trans h.1)

theorem continueProgram_transportError (e : TErr) : continueProgram is (transportError e t) = .next (transportError e t) :=
  if_neg (by simp)

theorem continueProgram_nil : continueProgram [] t = .next t := ite_self _

/-! ## In step -/

/-- The program's outcome is that of `TEMPERATURE`, as R132 compares them; `v₀` is `SPV` before both. -/
def EndsAlike (v₀ : Bool) (t : State) (o : Host.Outcome State Fault Refusal) : Prop :=
  ∃ u, o = .next u ∧ u.busy = t.busy ∧ u.bus = t.bus ∧ u.answers = t.answers ∧ u.reqPort = t.reqPort ∧
    (t.busy = false → ∃ op x v, u = { t with curOp := op, opa := x, spv := v } ∧ (t.status = .ok → v = t.spv) ∧
      (v = t.spv ∨ (v = v₀ ∧ t.status = .transport)))

/-- `TEMPERATURE` in its middle and the program at the same place: they differ in the sequencer's registers, in what the
program's finished operations report, in `PHASE`, and in `SPV` up to the program's last operation. -/
structure InStep (a : Addr) (v₀ : Bool) (sT sP : State) : Prop where
  busy : sT.busy = true
  opa : sT.opa = a
  spv : sT.spv = false
  searchClosed : sT.so = false
  port : sT.reqPort = none
  same : ∃ op x v n p k i b, (v = v₀ ∨ v = false) ∧ sP = { sT with
    curOp := op, opa := x, spv := v, sstep := n, phase := p, status := k, info := i, busy := b }

/-- Both take the same answer. -/
theorem InStep.takeAnswer (h : InStep a v₀ sT sP) (q : BusRequest) (ans : Answer) (rest : List Answer) :
    InStep a v₀ (takeAnswer q ans rest sT) (takeAnswer q ans rest sP) := by
  obtain ⟨op, x, v, n, p, k, i, b, hv, rfl⟩ := h.same
  exact { h with port := rfl, same := ⟨op, x, v, n, p, k, i, b, hv, rfl⟩ }

/-- `TEMPERATURE` may write the registers that are left out of the comparison. -/
theorem InStep.updateT (h : InStep a v₀ sT sP) (p : Phase) (n : BitVec 4) :
    InStep a v₀ { sT with phase := p, sstep := n } sP := by
  obtain ⟨op, x, v, n, p, k, i, b, hv, rfl⟩ := h.same
  exact { h with same := ⟨op, x, v, n, p, k, i, b, hv, rfl⟩ }

/-- So may the program. -/
theorem InStep.updateP (h : InStep a v₀ sT sP) (op : Byte) (x : Addr) (n : BitVec 4) (p : Phase) (k : Status) (i : Byte)
    (b : Bool) :
    InStep a v₀ sT { sP with curOp := op, opa := x, sstep := n, phase := p, status := k, info := i, busy := b } := by
  obtain ⟨_, _, v, _, _, _, _, _, hv, hsP⟩ := h.same
  exact { h with same := ⟨op, x, v, n, p, k, i, b, hv, by rw [hsP]⟩ }

/-- The next operation of the program is accepted (R30). -/
theorem InStep.enter (h : InStep a v₀ sT sP) (op : Byte) (x : Addr) (n : BitVec 4) (p : Phase) :
    InStep a v₀ sT { sP with curOp := op, opa := x, sstep := n, phase := p, busy := true, reqPort := none } := by
  obtain ⟨_, _, v, _, _, k, i, _, hv, hsP⟩ := h.same
  exact { h with same := ⟨op, x, v, n, p, k, i, true, hv, by rw [hsP, h.port]⟩ }

theorem InStep.answers (h : InStep a v₀ sT sP) : sP.answers = sT.answers := by
  obtain ⟨-, -, -, -, -, -, -, -, -, rfl⟩ := h.same
  rfl

theorem InStep.so (h : InStep a v₀ sT sP) : sP.so = false := by
  have hso := h.searchClosed
  obtain ⟨-, -, -, -, -, -, -, -, -, rfl⟩ := h.same
  exact hso

/-- By the answers at hand: `OK`, or every wait goes on. -/
theorem delayAnswers_cases (answers : List Answer) :
    (∃ rest, answers = .ok :: rest) ∨
    ∀ {us : Nat} {s : State}, s.answers = answers → delayStep us s = .wait (offer (.delay us) s) := by
  obtain _ | ⟨ans, rest⟩ := answers
  · exact .inr fun h => ask_none h
  · cases ans with
    | ok => exact .inl ⟨rest, rfl⟩
    | _ => exact .inr fun h => ask_unfit h rfl

/-- `BUS_RESET` closes no enumeration: none is open. -/
theorem InStep.enter_busReset (h : InStep a v₀ sT sP) : InStep a v₀ sT (busResetEntered sP) := by
  rw [busResetEntered, ← h.so]
  exact h.enter 0x00#8 sP.opa 2#4 sP.phase

/-- Both wait, at the same request. -/
theorem InStep.endsAlike_offer (h : InStep a v₀ sT sP) (hb : sP.busy = true) (q : BusRequest) :
    EndsAlike v₀ (offer q sT) (continueProgram is (offer q sP)) := by
  rw [continueProgram_of_busy (t := offer q sP) hb]
  have hbT := h.busy
  obtain ⟨op, x, v, n, p, k, i, b, -, rfl⟩ := h.same
  exact ⟨_, rfl, hb.trans hbT.symm, rfl, rfl, rfl, fun hidle => Bool.noConfusion (hidle.symm.trans hbT)⟩

/-- Both end with the same failed request. -/
theorem InStep.endsAlike_transportError (h : InStep a v₀ sT sP) (e : TErr) :
    EndsAlike v₀ (transportError e (setPhase .none sT)) (continueProgram is (transportError e (setPhase .none sP))) := by
  rw [continueProgram_transportError]
  have hspv := h.spv
  obtain ⟨op, x, v, -, -, -, -, -, hv, rfl⟩ := h.same
  exact ⟨_, rfl, rfl, rfl, rfl, rfl, fun _ => ⟨op, x, v, rfl, nofun, hv.symm.imp (·.trans hspv.symm) (⟨·, rfl⟩)⟩⟩

/-- By the answers at hand: `OK`, `ERR(e)`, or every acknowledged request waits. -/
theorem ackAnswers_cases (answers : List Answer) :
    (∃ rest, answers = .ok :: rest) ∨ (∃ e rest, answers = .err e :: rest) ∨
    ∀ {q : BusRequest} {before after onErr : State → State} {s : State}, s.answers = answers →
      ackStep q before after onErr s = .wait (offer q s) := by
  obtain _ | ⟨ans, rest⟩ := answers
  · exact .inr (.inr fun h => ask_none h)
  · cases ans with
    | ok => exact .inl ⟨rest, rfl⟩
    | err e => exact .inr (.inl ⟨e, rest, rfl⟩)
    | _ => exact .inr (.inr fun h => ask_unfit h rfl)

/-- The same request, made by both: they wait alike, they end alike where it is answered `ERR(e)`, and they stay in step where
it is answered `OK`. -/
theorem endsAlike_ackStep (h : InStep a v₀ sT sP) (hb : sP.busy = true)
    (herrT : ∀ e rest, errT (befT (takeAnswer q (.err e) rest sT)) = setPhase .none (takeAnswer q (.err e) rest sT))
    (herrP : ∀ e rest, errP (befP (takeAnswer q (.err e) rest sP)) = setPhase .none (takeAnswer q (.err e) rest sP))
    (hok : ∀ rest, InStep a v₀ (takeAnswer q .ok rest sT) (takeAnswer q .ok rest sP) →
      EndsAlike v₀ (runSteps fsT (n + 1) { aftT (befT (takeAnswer q .ok rest sT)) with sstep := BitVec.ofNat 4 (n + 1) })
        (continueProgram is
          (runSteps fsP (m + 1) { aftP (befP (takeAnswer q .ok rest sP)) with sstep := BitVec.ofNat 4 (m + 1) }))) :
    EndsAlike v₀ (runSteps (ackStep q befT aftT errT :: fsT) n sT)
      (continueProgram is (runSteps (ackStep q befP aftP errP :: fsP) m sP)) := by
  obtain ⟨rest, hT⟩ | ⟨e, rest, hT⟩ | hwait := ackAnswers_cases sT.answers
  · rw [runSteps_ackStep_ok hT, runSteps_ackStep_ok (h.answers.trans hT)]
    exact hok rest (h.takeAnswer ..)
  · rw [runSteps_ackStep_err hT, runSteps_ackStep_err (h.answers.trans hT), herrT, herrP]
    exact (h.takeAnswer ..).endsAlike_transportError e
  · rw [runSteps_wait (hwait rfl), runSteps_wait (hwait h.answers)]
    exact h.endsAlike_offer hb q

/-! ## The program's operations beside the steps of `TEMPERATURE` -/

/-- `BUS_RESET` beside steps s2 and s6 of R131. -/
theorem endsAlike_busReset (h : InStep a v₀ sT sP)
    (hok : ∀ tT tP, InStep a v₀ tT tP → tP.phase = .selection →
      EndsAlike v₀ (runSteps fsT (n + 1) tT) (runProgram is tP)) :
    EndsAlike v₀ (runSteps (busResetStep (setPhase .selection) :: fsT) n sT) (runProgram (.busReset :: is) sP) := by
  rw [runProgram_cons]
  refine endsAlike_ackStep (m := 2) h.enter_busReset rfl (fun _ _ => rfl) (fun _ _ => rfl)
    fun rest hin => ?_
  rw [continueProgram_report]
  exact hok _ _ ((hin.updateT .selection _).updateP 0x00#8 sP.opa 0#4 .selection .ok 0x00#8 false) rfl

/-- A command of the program in its phase comes to its frame. -/
theorem runOp_command {op : Byte} {need : Phase} {s : State} (hp : s.phase = need) :
    runOp op (phaseCheck op need :: regs (setPhase .none) :: fs) s = runSteps fs 3 (phaseConsumed 3 (accept op s)) :=
  runSteps_phaseCheck_consumes (s := accept op s) hp

/-- `MATCH_ADDRESS` beside steps s3 and s7 of R131: both send the same frame. -/
theorem endsAlike_matchAddress (h : InStep a v₀ sT sP) (hp : sP.phase = .selection)
    (hok : ∀ tT tP, InStep a v₀ tT tP → tP.phase = .memory → EndsAlike v₀ (runSteps fsT (n + 1) tT) (runProgram is tP)) :
    EndsAlike v₀ (runSteps (temperatureSelect :: fsT) n sT) (runProgram (.matchAddress a :: is) sP) := by
  rw [runProgram_cons, stepsOf, stepsMatchAddress, latch, opcode, runOp_command (s := latchAddr a sP) hp]
  change EndsAlike v₀
    (runSteps (ackStep (.write (0x55#8 :: addrBytes sT.opa)) (setPhase .none) (setPhase .memory) id :: fsT) n sT)
    (continueProgram is (runSteps (ackStep (.write (0x55#8 :: addrBytes a)) id id id :: _) 3 _))
  rw [h.opa]
  refine endsAlike_ackStep (h.enter 0x55#8 a 3#4 .none) rfl (fun _ _ => rfl) (fun _ _ => rfl) fun rest hin => ?_
  rw [continueProgram_report]
  exact hok _ _ ((hin.updateT .memory _).updateP 0x55#8 a 0#4 .memory .ok 0x00#8 false) rfl

/-- Both make the same wait: it has no error answer (R45). -/
theorem endsAlike_delayStep {us : Nat} (h : InStep a v₀ sT sP) (hb : sP.busy = true)
    (hok : ∀ rest, InStep a v₀ (takeAnswer (.delay us) .ok rest sT) (takeAnswer (.delay us) .ok rest sP) →
      EndsAlike v₀ (runSteps fsT (n + 1) { takeAnswer (.delay us) .ok rest sT with sstep := BitVec.ofNat 4 (n + 1) })
        (continueProgram is
          (runSteps fsP (m + 1) { takeAnswer (.delay us) .ok rest sP with sstep := BitVec.ofNat 4 (m + 1) }))) :
    EndsAlike v₀ (runSteps (delayStep us :: fsT) n sT) (continueProgram is (runSteps (delayStep us :: fsP) m sP)) := by
  obtain ⟨rest, hT⟩ | hwait := delayAnswers_cases sT.answers
  · rw [runSteps_go (delayStep_ok hT), runSteps_go (delayStep_ok (h.answers.trans hT))]
    exact hok rest (h.takeAnswer ..)
  · rw [runSteps_wait (hwait rfl), runSteps_wait (hwait h.answers)]
    exact h.endsAlike_offer hb (.delay us)

/-- `CONVERT_TEMPERATURE` beside steps s4 and s5 of R131. -/
theorem endsAlike_convertTemperature (h : InStep a v₀ sT sP) (hp : sP.phase = .memory)
    (hok : ∀ tT tP, InStep a v₀ tT tP → EndsAlike v₀ (runSteps fsT (n + 2) tT) (runProgram is tP)) :
    EndsAlike v₀ (runSteps (busWriteStep [0x44#8] (setPhase .none) id :: delayStep Config.tConvMax :: fsT) n sT)
      (runProgram (.convertTemperature :: is) sP) := by
  rw [runProgram_cons, stepsOf, stepsConvertTemperature, latch, opcode, runOp_command (s := id sP) hp]
  refine endsAlike_ackStep (h.enter 0x44#8 sP.opa 3#4 .none) rfl (fun _ _ => rfl) (fun _ _ => rfl) fun rest hin => ?_
  refine endsAlike_delayStep ((hin.updateT .none _).updateP 0x44#8 sP.opa 4#4 .none sP.status sP.info true) rfl
    fun rest hin => ?_
  rw [continueProgram_succeed]
  exact hok _ _ ((hin.updateT .none _).updateP 0x44#8 sP.opa 0#4 .none .ok 0x00#8 false)

/-- By the answers at hand: n bytes, `ERR(e)`, or every read of n bytes waits. -/
theorem readAnswers_cases (n : Nat) (answers : List Answer) :
    (∃ bs rest, answers = .bytes bs :: rest ∧ bs.length = n) ∨ (∃ e rest, answers = .err e :: rest) ∨
    ∀ {s : State}, s.answers = answers → busReadStep n s = .wait (offer (.read n) s) := by
  obtain _ | ⟨ans, rest⟩ := answers
  · exact .inr (.inr fun h => ask_none h)
  · cases ans with
    | err e => exact .inr (.inl ⟨e, rest, rfl⟩)
    | bytes bs =>
      by_cases hbs : bs.length = n
      · exact .inl ⟨bs, rest, rfl, hbs⟩
      · exact .inr (.inr fun h => ask_unfit h (if_neg hbs))
    | _ => exact .inr (.inr fun h => ask_unfit h rfl)

/-- A failed read fills the buffer from the draw counter (U1). -/
theorem busReadStep_err_eq {e : TErr} {rest : List Answer} (h : s.answers = .err e :: rest) :
    busReadStep n s = .stop (transportError e { takeAnswer (.read n) (.err e) rest s with
      buf := fillImage (freeBytes ((takeAnswer (.read n) (.err e) rest s).draws - n) n) s.buf }) := by
  rw [busReadStep, ask_fits h (v := .error e) rfl]
  rfl

/-- The latches and the operation code are left out of the comparison of two operations that have ended. -/
theorem endsAlike_latches (t : State) (op : Byte) (x : Addr) :
    EndsAlike v₀ t (continueProgram [] { t with curOp := op, opa := x }) := by
  rw [continueProgram_nil]
  exact ⟨_, rfl, rfl, rfl, rfl, rfl, fun _ => ⟨op, x, t.spv, rfl, fun _ => rfl, .inl rfl⟩⟩

/-- Where the phases agree too and the program has cleared `SPV`, only the sequencer's registers and the report differ. -/
theorem InStep.eq_of_phase (h : InStep a v₀ sT sP) (hphase : sP.phase = sT.phase) (hspv : sP.spv = false) :
    ∃ op x n k i b, sP = { sT with curOp := op, opa := x, sstep := n, status := k, info := i, busy := b } := by
  obtain ⟨op, x, v, n, p, k, i, b, -, hsP⟩ := h.same
  obtain rfl : p = sT.phase := by rw [← hphase, hsP]
  obtain rfl : v = sT.spv := by rw [h.spv, ← hspv, hsP]
  exact ⟨op, x, n, k, i, b, hsP⟩

/-- The read of the image and what is made of it, the same steps in both. -/
theorem endsAlike_image (h : InStep a v₀ sT sP) (hb : sP.busy = true) (hphase : sP.phase = sT.phase)
    (hspv : sP.spv = false) :
    EndsAlike v₀ (runSteps [busReadStep 9, crcCheckStep 9, cfgCheckStep, regs loadDecoded, succeed] n sT)
      (continueProgram []
        (runSteps [busReadStep 9, crcCheckStep 9, cfgCheckStep, regs loadDecoded, succeed] m sP)) := by
  obtain ⟨op, x, k, st, i, b, hsP⟩ := h.eq_of_phase hphase hspv
  obtain ⟨bs, rest, hT, hbs⟩ | ⟨e, rest, hT⟩ | hwait := readAnswers_cases 9 sT.answers
  · have hP := h.answers.trans hT
    by_cases hcrc : crc8 0x00#8 bs = 0x00#8
    · rw [runSteps_receive_pass hT hbs le_rfl hcrc, runSteps_receive_pass hP hbs le_rfl hcrc, hsP]
      by_cases hcfg : ((fillImage bs sT.buf).b4 &&& 0x9F#8) = 0x1F#8
      · rw [runSteps_cfgCheck_loadDecoded hcfg, runSteps_cfgCheck_loadDecoded hcfg]
        exact endsAlike_latches _ op x
      · rw [runSteps_cfgCheck_raise hcfg, runSteps_cfgCheck_raise hcfg]
        exact endsAlike_latches _ op x
    · rw [runSteps_receive_mismatch hT hbs le_rfl hcrc, runSteps_receive_mismatch hP hbs le_rfl hcrc, hsP]
      exact endsAlike_latches _ op x
  · rw [runSteps_stop (busReadStep_err_eq hT), runSteps_stop (busReadStep_err_eq (h.answers.trans hT)), hsP]
    exact endsAlike_latches _ op x
  · rw [runSteps_wait (hwait rfl), runSteps_wait (hwait h.answers)]
    exact h.endsAlike_offer hb (.read 9)

/-- `READ_SCRATCHPAD` clears `SPV`, which `TEMPERATURE` has done already. -/
theorem InStep.enter_readScratchpad (h : InStep a v₀ sT sP) :
    InStep a v₀ sT (phaseConsumed 4 (readScratchpadEntered sP)) := by
  obtain ⟨_, x, _, _, _, k, i, _, _, hsP⟩ := h.same
  refine { h with same := ⟨0xBE#8, x, false, 4#4, .none, k, i, true, .inr rfl, ?_⟩ }
  rw [phaseConsumed, readScratchpadEntered, hsP, h.port]

/-- `READ_SCRATCHPAD` beside steps s8 to s13 of R131. -/
theorem endsAlike_readScratchpad (h : InStep a v₀ sT sP) (hp : sP.phase = .memory) :
    EndsAlike v₀ (runSteps (stepsTemperature.drop 7) n sT) (runProgram [.readScratchpad] sP) := by
  have hrun : runOp 0xBE#8 stepsReadScratchpad sP =
      runSteps (stepsReadScratchpad.drop 3) 4 (phaseConsumed 4 (readScratchpadEntered sP)) :=
    runSteps_phaseCheck_consumes (s := readScratchpadEntered sP) hp
  rw [runProgram_cons, stepsOf, latch, opcode, id, hrun]
  exact endsAlike_ackStep h.enter_readScratchpad rfl (fun _ _ => rfl) (fun _ _ => rfl) fun rest hin =>
    endsAlike_image (hin.updateT .none _ |>.updateP 0xBE#8 sP.opa 5#4 .none sP.status sP.info true) rfl rfl rfl

/-- Before the program, only `SO` and the request port can be in the way, which its `BUS_RESET` writes first. -/
theorem runProgram_busReset (is : List Instr) (s : State) :
    runProgram (.busReset :: is) s = runProgram (.busReset :: is) { s with so := false, reqPort := none } := by
  rw [runProgram_cons, runProgram_cons]
  rfl

theorem inStep_start (a : Addr) (s : State) :
    InStep a s.spv { accept 0x0A#8 (latchAddr a s) with spv := false, so := false, sstep := 2#4 }
      { s with so := false, reqPort := none } where
  busy := rfl
  opa := rfl
  spv := rfl
  searchClosed := rfl
  port := rfl
  same := ⟨s.curOp, s.opa, s.spv, s.sstep, s.phase, s.status, s.info, s.busy, .inl rfl, rfl⟩

/-- Settles O50: request by request, from the first reset to the read of the image, the two stay in step until one answer ends
both or both wait for it. -/
theorem temperatureIsItsSixOperationProgram : Obligations.TemperatureIsItsSixOperationProgram := by
  intro a s t he
  cases he
  rw [runProgram_busReset]
  exact endsAlike_busReset (n := 2) (inStep_start a s) fun _ _ h hp => endsAlike_matchAddress h hp fun _ _ h hp =>
    endsAlike_convertTemperature h hp fun _ _ h => endsAlike_busReset h fun _ _ h hp =>
    endsAlike_matchAddress h hp fun _ _ h hp => endsAlike_readScratchpad h hp

end Sys2Proof.Machine
end

section
/-! The command grammar of the bus traffic (R60, R61, R68, R147, R150): one rule for each step that operations share, then
each operation from each of its requests, then the step. -/

namespace Sys2Proof.Machine

variable {i : Instr} {op : Byte} {need : Phase} {p p' : Traffic} {q : BusRequest} {ans : Answer} {fs : List MicroStep}
  {n : Nat} {s t u : State} {before after onErr : State → State}

/-! ## The grammar -/

theorem trafficFrom_append (p : Traffic) (es : List BusEvent) (e : BusEvent) :
    trafficFrom p (es ++ [e]) = (trafficFrom p es).bind fun p' => trafficNext p' e := by
  induction es generalizing p with
  | nil => simp only [List.nil_append, trafficFrom, Option.bind_some]; cases trafficNext p e <;> rfl
  | cons d es ih => simp only [List.cons_append, trafficFrom]; cases trafficNext p d <;> simp [ih]

/-- Where an idle block with a phase stands in the grammar (R150). -/
def phaseTraffic : Phase → Traffic
  | .none => .idle
  | .selection => .afterReset
  | .memory => .afterSelect

theorem phaseFits_iff : phaseFits p s = true ↔ s.phase = .none ∨ p = phaseTraffic s.phase := by
  rw [phaseFits]
  cases s.phase <;> simp [phaseTraffic]

theorem trafficOk_iff :
    TrafficOk s ↔ ∃ p, trafficFrom .idle s.bus = some p ∧ (s.busy = true ∨ phaseFits p s = true) ∧ portFits p s = true := by
  rw [TrafficOk, trafficFits]
  cases trafficFrom .idle s.bus <;> simp

/-- A failed request leaves no session. -/
theorem trafficNext_err (h : requestAllowed p q = true) (e : TErr) (wire : List Byte) :
    trafficNext p ⟨q, .err e, wire⟩ = some .idle := by
  revert h
  cases q with
  | write bytes =>
    cases bytes with
    | nil => simp [requestAllowed, trafficNext]
    | cons c rest => simp only [requestAllowed, trafficNext]; split_ifs <;> simp [onAck]
  | read k => simp only [requestAllowed, trafficNext]; split_ifs <;> simp
  | delay us => simp only [requestAllowed, trafficNext]; split_ifs <;> simp
  | _ => simp [trafficNext, onAck]

/-- Wherever the request may be made, the answer leads to `p`. -/
def LeadsTo (q : BusRequest) (ans : Answer) (p : Traffic) : Prop :=
  ∀ p' wire, requestAllowed p' q = true → trafficNext p' ⟨q, ans, wire⟩ = some p

theorem leadsTo_reset : LeadsTo .reset .ok .afterReset := fun _ _ _ => rfl

theorem leadsTo_readAddress : LeadsTo (.write [0x33#8]) .ok .addressDue := by
  intro p wire; cases p <;> simp [requestAllowed, trafficNext, onAck]

theorem leadsTo_matchAddress (a : Addr) : LeadsTo (.write (0x55#8 :: addrBytes a)) .ok .afterSelect := by
  intro p wire; cases p <;> simp [requestAllowed, trafficNext, onAck, addrBytes]

theorem leadsTo_skipAddress : LeadsTo (.write [0xCC#8]) .ok .afterSelect := by
  intro p wire; cases p <;> simp [requestAllowed, trafficNext, onAck]

theorem leadsTo_readScratchpad : LeadsTo (.write [0xBE#8]) .ok .scratchpadDue := by
  intro p wire; cases p <;> simp [requestAllowed, trafficNext, onAck]

theorem leadsTo_convertTemperature : LeadsTo (.write [0x44#8]) .ok .waitDue := by
  intro p wire; cases p <;> simp [requestAllowed, trafficNext, onAck]

theorem leadsTo_writeScratchpad (w : Image3) : LeadsTo (.write (0x4E#8 :: writeBytes w)) .ok .idle := by
  intro p wire; cases p <;> simp [requestAllowed, trafficNext, writeBytes]

theorem leadsTo_delay (us : Nat) : LeadsTo (.delay us) .ok .idle := by
  intro p wire
  simp only [requestAllowed, trafficNext]
  split_ifs <;> simp

theorem leadsTo_read (k : Nat) (ans : Answer) : LeadsTo (.read k) ans .idle := by
  intro p wire
  simp only [requestAllowed, trafficNext]
  split_ifs <;> simp

/-! ## In the middle of an operation -/

/-- A running operation whose traffic stands at `p`. -/
structure Midway (p : Traffic) (s : State) : Prop where
  busy : s.busy = true
  record : trafficFrom .idle s.bus = some p

/-- A running operation that may make the request where its traffic stands. -/
def MayAsk (q : BusRequest) (s : State) : Prop := ∃ p, Midway p s ∧ requestAllowed p q = true

/-- No session: the traffic keeps the grammar, and neither a phase nor a request is open. -/
structure NoSession (s : State) : Prop where
  record : ∃ p, trafficFrom .idle s.bus = some p
  phase : s.phase = .none
  port : s.reqPort = none

theorem Midway.mayAsk (h : Midway p s) (hq : requestAllowed p q = true) : MayAsk q s := ⟨p, h, hq⟩

theorem MayAsk.takeAnswer (h : MayAsk q s) (hq : LeadsTo q ans p) (rest : List Answer) :
    Midway p (takeAnswer q ans rest s) := by
  obtain ⟨p', hs, hask⟩ := h
  refine ⟨hs.busy, ?_⟩
  rw [takeAnswer_bus, trafficFrom_append, hs.record]
  exact hq p' _ hask

theorem MayAsk.takeErr (h : MayAsk q s) (e : TErr) (rest : List Answer) :
    Midway .idle (Machine.takeAnswer q (.err e) rest s) :=
  h.takeAnswer (fun _ wire hask => trafficNext_err hask e wire) rest

/-! ## The ways an operation ends or waits -/

theorem MayAsk.trafficOk_offer (h : MayAsk q s) : TrafficOk (offer q s) := by
  obtain ⟨p, hs, hask⟩ := h
  exact trafficOk_iff.mpr ⟨p, hs.record, .inl hs.busy, hask⟩

theorem NoSession.trafficOk (h : NoSession s) : TrafficOk s := by
  obtain ⟨p, hrecord⟩ := h.record
  exact trafficOk_iff.mpr ⟨p, hrecord, .inr (phaseFits_iff.mpr (.inl h.phase)), by rw [portFits, h.port]⟩

/-- An operation that has opened a phase stands there. -/
theorem trafficOk_opened (h : trafficFrom .idle s.bus = some (phaseTraffic s.phase)) (hport : s.reqPort = none) :
    TrafficOk s :=
  trafficOk_iff.mpr ⟨_, h, .inr (phaseFits_iff.mpr (.inr rfl)), by rw [portFits, hport]⟩

/-! ## One rule per shared step -/

/-- A step that asks for an acknowledgement: its error path closes the session. -/
theorem runSteps_ackStep_trafficOk (h : MayAsk q s) (hq : LeadsTo q .ok p)
    (herr : ∀ e rest, onErr (before (takeAnswer q (.err e) rest s)) = setPhase .none (takeAnswer q (.err e) rest s))
    (hok : ∀ rest, Midway p (takeAnswer q .ok rest s) →
      TrafficOk (runSteps fs (n + 1) { after (before (takeAnswer q .ok rest s)) with sstep := BitVec.ofNat 4 (n + 1) })) :
    TrafficOk (runSteps (ackStep q before after onErr :: fs) n s) := by
  obtain ⟨rest, hans, -⟩ | ⟨e, rest, hans, -⟩ | hwait := ackStep_cases q before after onErr s
  · rw [runSteps_ackStep_ok hans]
    exact hok rest (h.takeAnswer hq rest)
  · rw [runSteps_ackStep_err hans, herr]
    exact NoSession.trafficOk ⟨⟨_, (h.takeErr e rest).record⟩, rfl, rfl⟩
  · rw [runSteps_wait hwait]
    exact h.trafficOk_offer

/-- The frame of a command, whose phase is consumed. -/
theorem runSteps_frame_trafficOk {bytes : List Byte} (h : MayAsk (.write bytes) s) (hphase : s.phase = .none)
    (hq : LeadsTo (.write bytes) .ok p)
    (hok : ∀ t, Midway p t → t.phase = .none → t.reqPort = none → TrafficOk (runSteps fs (n + 1) t)) :
    TrafficOk (runSteps (busWriteStep bytes id id :: fs) n s) :=
  runSteps_ackStep_trafficOk h hq
    (fun e rest => congrArg (fun ph => { takeAnswer (.write bytes) (.err e) rest s with phase := ph }) hphase)
    fun _ hmid => hok _ ⟨hmid.busy, hmid.record⟩ hphase rfl

/-- `BusRead(k)`: what follows it makes no request. -/
theorem runSteps_busReadStep_trafficOk {k : Nat} (h : MayAsk (.read k) s) (hphase : s.phase = .none)
    (hok : ∀ t, NoSession t → TrafficOk (runSteps fs (n + 1) t)) : TrafficOk (runSteps (busReadStep k :: fs) n s) := by
  have hread := fun ans rest => h.takeAnswer (leadsTo_read k ans) rest
  obtain ⟨bs, rest, -, -, hgo⟩ | ⟨e, rest, free, -, -, hstop⟩ | hwait := busReadStep_cases k s
  · rw [runSteps_go hgo]
    exact hok _ ⟨⟨_, (hread _ rest).record⟩, hphase, rfl⟩
  · rw [runSteps_stop hstop]
    exact NoSession.trafficOk ⟨⟨_, (hread _ rest).record⟩, hphase, rfl⟩
  · rw [runSteps_wait hwait]
    exact h.trafficOk_offer

/-- `Delay(us)`. -/
theorem runSteps_delayStep_trafficOk {us : Nat} (h : MayAsk (.delay us) s)
    (hok : ∀ rest, Midway .idle (takeAnswer (.delay us) .ok rest s) →
      TrafficOk (runSteps fs (n + 1) { takeAnswer (.delay us) .ok rest s with sstep := BitVec.ofNat 4 (n + 1) })) :
    TrafficOk (runSteps (delayStep us :: fs) n s) := by
  obtain ⟨rest, -, hgo⟩ | hwait := delayStep_cases us s
  · rw [runSteps_go hgo]
    exact hok rest (h.takeAnswer (leadsTo_delay us) rest)
  · rw [runSteps_wait hwait]
    exact h.trafficOk_offer

/-- The CRC check of what was read. -/
theorem runSteps_crcCheckStep_trafficOk {k : Nat} (h : NoSession s)
    (hok : ∀ t, NoSession t → TrafficOk (runSteps fs (n + 1) t)) : TrafficOk (runSteps (crcCheckStep k :: fs) n s) := by
  obtain ⟨-, hgo⟩ | ⟨-, hstop⟩ := crcCheckStep_cases k s
  · rw [runSteps_go hgo]
    exact hok _ ⟨h.record, h.phase, h.port⟩
  · rw [runSteps_stop hstop]
    exact NoSession.trafficOk ⟨h.record, h.phase, h.port⟩

/-- The last steps of `READ_SCRATCHPAD` and `TEMPERATURE`, from the read of the image. -/
theorem runSteps_image_trafficOk (h : MayAsk (.read 9) s) (hphase : s.phase = .none) :
    TrafficOk (runSteps [busReadStep 9, crcCheckStep 9, cfgCheckStep, regs loadDecoded, succeed] n s) :=
  runSteps_busReadStep_trafficOk h hphase fun _ ht => runSteps_crcCheckStep_trafficOk ht fun u hu => by
    obtain ⟨-, hgo⟩ | ⟨-, hstop⟩ := cfgCheckStep_cases u
    · rw [runSteps_go hgo]
      exact NoSession.trafficOk ⟨hu.record, hu.phase, hu.port⟩
    · rw [runSteps_stop hstop]
      exact NoSession.trafficOk ⟨hu.record, hu.phase, hu.port⟩

/-! ## Each operation from each of its requests -/

theorem busReset_s2_trafficOk (h : MayAsk .reset s) : TrafficOk (runSteps (stepsBusReset.drop 1) n s) :=
  runSteps_ackStep_trafficOk h leadsTo_reset (fun _ _ => rfl) fun _ hmid => trafficOk_opened hmid.record rfl

theorem readAddress_s5_trafficOk (h : MayAsk (.read 8) s) (hphase : s.phase = .none) :
    TrafficOk (runSteps (stepsReadAddress.drop 4) n s) :=
  runSteps_busReadStep_trafficOk h hphase fun _ ht => runSteps_crcCheckStep_trafficOk ht fun _ hu =>
    NoSession.trafficOk ⟨hu.record, hu.phase, hu.port⟩

theorem readAddress_s4_trafficOk (h : MayAsk (.write [0x33#8]) s) (hphase : s.phase = .none) :
    TrafficOk (runSteps (stepsReadAddress.drop 3) n s) :=
  runSteps_frame_trafficOk h hphase leadsTo_readAddress fun _ ht hp _ => readAddress_s5_trafficOk (ht.mayAsk rfl) hp

theorem matchAddress_s3_trafficOk (h : MayAsk (.write (0x55#8 :: addrBytes s.opa)) s) (hphase : s.phase = .none) :
    TrafficOk (runSteps (stepsMatchAddress.drop 2) n s) :=
  runSteps_frame_trafficOk h hphase (leadsTo_matchAddress s.opa) fun _ ht _ hport => trafficOk_opened ht.record hport

theorem skipAddress_s3_trafficOk (h : MayAsk (.write [0xCC#8]) s) (hphase : s.phase = .none) :
    TrafficOk (runSteps (stepsSkipAddress.drop 2) n s) :=
  runSteps_frame_trafficOk h hphase leadsTo_skipAddress fun _ ht _ hport => trafficOk_opened ht.record hport

theorem readScratchpad_s5_trafficOk (h : MayAsk (.read 9) s) (hphase : s.phase = .none) :
    TrafficOk (runSteps (stepsReadScratchpad.drop 4) n s) :=
  runSteps_image_trafficOk h hphase

theorem readScratchpad_s4_trafficOk (h : MayAsk (.write [0xBE#8]) s) (hphase : s.phase = .none) :
    TrafficOk (runSteps (stepsReadScratchpad.drop 3) n s) :=
  runSteps_frame_trafficOk h hphase leadsTo_readScratchpad fun _ ht hp _ => readScratchpad_s5_trafficOk (ht.mayAsk rfl) hp

theorem writeScratchpad_s3_trafficOk (h : MayAsk (.write (0x4E#8 :: writeBytes s.opw)) s) (hphase : s.phase = .none) :
    TrafficOk (runSteps (stepsWriteScratchpad.drop 2) n s) :=
  runSteps_frame_trafficOk h hphase (leadsTo_writeScratchpad s.opw) fun _ ht hp hport =>
    NoSession.trafficOk ⟨⟨_, ht.record⟩, hp, hport⟩

theorem convertTemperature_s4_trafficOk (h : MayAsk (.delay 750000) s) (hphase : s.phase = .none) :
    TrafficOk (runSteps (stepsConvertTemperature.drop 3) n s) :=
  runSteps_delayStep_trafficOk h fun _ hmid => NoSession.trafficOk ⟨⟨_, hmid.record⟩, hphase, rfl⟩

theorem convertTemperature_s3_trafficOk (h : MayAsk (.write [0x44#8]) s) (hphase : s.phase = .none) :
    TrafficOk (runSteps (stepsConvertTemperature.drop 2) n s) :=
  runSteps_frame_trafficOk h hphase leadsTo_convertTemperature fun _ ht hp _ =>
    convertTemperature_s4_trafficOk (ht.mayAsk rfl) hp

/-- An enumeration may be asked for wherever the traffic stands. -/
theorem search_s3_trafficOk {first : Bool} (h : MayAsk (.searchNext first) s) (hphase : s.phase = .none) :
    TrafficOk (runSteps ((stepsSearch first).drop 2) n s) := by
  have hitem := fun ans rest => h.takeAnswer (p := .idle) (ans := ans) (fun _ _ _ => rfl) rest
  obtain ⟨a, rest, -, hgo⟩ | ⟨e, rest, -, hstop⟩ | ⟨rest, -, hstop⟩ | hwait := searchItemStep_cases first s
  · have hrecord := (hitem (.item a) rest).record
    refine (runSteps_go hgo).symm ▸ ?_
    rw [runSteps_cons, searchFamilyCheck]
    split_ifs
    · exact NoSession.trafficOk ⟨⟨_, hrecord⟩, hphase, rfl⟩
    · exact NoSession.trafficOk ⟨⟨_, hrecord⟩, hphase, rfl⟩
  · exact (runSteps_stop hstop).symm ▸ NoSession.trafficOk ⟨⟨_, (hitem _ rest).record⟩, hphase, rfl⟩
  · exact (runSteps_stop hstop).symm ▸ NoSession.trafficOk ⟨⟨_, (hitem _ rest).record⟩, hphase, rfl⟩
  · exact (runSteps_wait hwait).symm ▸ h.trafficOk_offer

/-! ## `TEMPERATURE` from each of its requests -/

theorem temperature_s8_trafficOk (h : MayAsk (.write [0xBE#8]) s) : TrafficOk (runSteps (stepsTemperature.drop 7) n s) :=
  runSteps_ackStep_trafficOk h leadsTo_readScratchpad (fun _ _ => rfl) fun _ hmid =>
    runSteps_image_trafficOk (Midway.mayAsk ⟨hmid.busy, hmid.record⟩ rfl) rfl

theorem temperature_s7_trafficOk (h : MayAsk (.write (0x55#8 :: addrBytes s.opa)) s) :
    TrafficOk (runSteps (stepsTemperature.drop 6) n s) :=
  runSteps_ackStep_trafficOk h (leadsTo_matchAddress s.opa) (fun _ _ => rfl) fun _ hmid =>
    temperature_s8_trafficOk (Midway.mayAsk ⟨hmid.busy, hmid.record⟩ rfl)

theorem temperature_s6_trafficOk (h : MayAsk .reset s) : TrafficOk (runSteps (stepsTemperature.drop 5) n s) :=
  runSteps_ackStep_trafficOk h leadsTo_reset (fun _ _ => rfl) fun _ hmid =>
    temperature_s7_trafficOk (Midway.mayAsk ⟨hmid.busy, hmid.record⟩ rfl)

theorem temperature_s5_trafficOk (h : MayAsk (.delay 750000) s) : TrafficOk (runSteps (stepsTemperature.drop 4) n s) :=
  runSteps_delayStep_trafficOk h fun _ hmid => temperature_s6_trafficOk (Midway.mayAsk ⟨hmid.busy, hmid.record⟩ rfl)

theorem temperature_s4_trafficOk (h : MayAsk (.write [0x44#8]) s) : TrafficOk (runSteps (stepsTemperature.drop 3) n s) :=
  runSteps_ackStep_trafficOk h leadsTo_convertTemperature (fun _ _ => rfl) fun _ hmid =>
    temperature_s5_trafficOk (Midway.mayAsk ⟨hmid.busy, hmid.record⟩ rfl)

theorem temperature_s3_trafficOk (h : MayAsk (.write (0x55#8 :: addrBytes s.opa)) s) :
    TrafficOk (runSteps (stepsTemperature.drop 2) n s) :=
  runSteps_ackStep_trafficOk h (leadsTo_matchAddress s.opa) (fun _ _ => rfl) fun _ hmid =>
    temperature_s4_trafficOk (Midway.mayAsk ⟨hmid.busy, hmid.record⟩ rfl)

theorem temperature_s2_trafficOk (h : MayAsk .reset s) : TrafficOk (runSteps (stepsTemperature.drop 1) n s) :=
  runSteps_ackStep_trafficOk h leadsTo_reset (fun _ _ => rfl) fun _ hmid =>
    temperature_s3_trafficOk (Midway.mayAsk ⟨hmid.busy, hmid.record⟩ rfl)

/-! ## Each operation from its acceptance -/

/-- A command is accepted: out of its phase it makes no request, in its phase the traffic stands where the phase tells. -/
theorem runSteps_command_trafficOk (hneed : need ≠ .none) (hb : s.busy = true) (hport : s.reqPort = none)
    (hrecord : trafficFrom .idle s.bus = some p) (hfits : phaseFits p s = true)
    (hok : ∀ t, Midway (phaseTraffic need) t → t.phase = .none → t.reqPort = none →
      TrafficOk (runSteps fs (n + 2) t)) :
    TrafficOk (runSteps (phaseCheck op need :: regs (setPhase .none) :: fs) n s) := by
  by_cases hp : s.phase = need
  · rw [runSteps_phaseCheck_consumes hp]
    have hstands : p = phaseTraffic need := by
      obtain hnone | hstands := phaseFits_iff.mp hfits
      · exact absurd (hp.symm.trans hnone) hneed
      · rw [hstands, hp]
    exact hok _ ⟨hb, hstands ▸ hrecord⟩ rfl hport
  · rw [runSteps_phaseCheck_violates hp]
    exact NoSession.trafficOk ⟨⟨p, hrecord⟩, rfl, hport⟩

theorem stub_trafficOk (hneed : need ≠ .none) (hrecord : trafficFrom .idle s.bus = some p) (hfits : phaseFits p s = true) :
    TrafficOk (runOp op [phaseCheck op need, regs (setPhase .none), stub op] s) :=
  runSteps_command_trafficOk (s := accept op s) hneed rfl rfl hrecord hfits fun _ ht hphase hport =>
    NoSession.trafficOk ⟨⟨_, ht.record⟩, hphase, hport⟩

theorem search_trafficOk (first : Bool) (hrecord : trafficFrom .idle s.bus = some p) :
    TrafficOk (runOp 0xF0#8 (stepsSearch first) s) := by
  obtain ⟨hopen, -⟩ | ⟨hnext, hclosed, -⟩ := searchOpenCheck_cases first s
  · rw [runOp_stepsSearch_open hopen]
    exact search_s3_trafficOk (Midway.mayAsk (p := p) ⟨rfl, hrecord⟩ rfl) rfl
  · obtain ⟨-, -, hrun⟩ := searchTakesOneItem first s [] 0#64 s.terr
    rw [← Host.Outcome.next.inj ((hrun hnext hclosed).symm.trans rfl)]
    exact NoSession.trafficOk ⟨⟨p, hrecord⟩, rfl, rfl⟩

theorem pure_trafficOk (hpure : isPure i = true) (hrecord : trafficFrom .idle s.bus = some p)
    (hfits : phaseFits p s = true) (he : exec i s = .next t) : TrafficOk t := by
  have haround := exec_pure_surroundings hpure he
  obtain ⟨-, hphase, hbus, -⟩ := pureOperationsLeaveBusAndPhase i s t hpure he
  have hport : t.reqPort = none := congrArg Surroundings.reqPort haround
  refine trafficOk_iff.mpr ⟨p, hbus ▸ hrecord, .inr ?_, by rw [portFits, hport]⟩
  rwa [phaseFits_iff, hphase, ← phaseFits_iff]

/-- Every operation, accepted where the phase tells where the traffic stands. -/
theorem exec_trafficOk (hrecord : trafficFrom .idle s.bus = some p) (hfits : phaseFits p s = true)
    (he : exec i s = .next t) : TrafficOk t := by
  by_cases hpure : isPure i = true
  · exact pure_trafficOk hpure hrecord hfits he
  cases i with
  | busReset => cases he; exact busReset_s2_trafficOk (Midway.mayAsk (p := p) ⟨rfl, hrecord⟩ rfl)
  | temperature a => cases he; exact temperature_s2_trafficOk (Midway.mayAsk (p := p) ⟨rfl, hrecord⟩ rfl)
  | search first => cases he; exact search_trafficOk first hrecord
  | readAddress =>
    cases he
    exact runSteps_command_trafficOk (s := readAddressEntered s) (by decide) rfl rfl hrecord hfits
      fun _ ht hp _ => readAddress_s4_trafficOk (ht.mayAsk rfl) hp
  | matchAddress a =>
    cases he
    exact runSteps_command_trafficOk (s := accept 0x55#8 (latchAddr a s)) (by decide) rfl rfl hrecord hfits
      fun _ ht hp _ => matchAddress_s3_trafficOk (ht.mayAsk rfl) hp
  | skipAddress =>
    cases he
    exact runSteps_command_trafficOk (s := accept 0xCC#8 s) (by decide) rfl rfl hrecord hfits
      fun _ ht hp _ => skipAddress_s3_trafficOk (ht.mayAsk rfl) hp
  | readScratchpad =>
    cases he
    exact runSteps_command_trafficOk (s := readScratchpadEntered s) (by decide) rfl rfl hrecord hfits
      fun _ ht hp _ => readScratchpad_s4_trafficOk (ht.mayAsk rfl) hp
  | writeScratchpad th tl res =>
    cases he
    exact runSteps_command_trafficOk (s := accept 0x4E#8 (latchWrite (writeImage th tl res) s)) (by decide) rfl rfl hrecord
      hfits fun _ ht hp _ => writeScratchpad_s3_trafficOk (ht.mayAsk rfl) hp
  | convertTemperature =>
    cases he
    exact runSteps_command_trafficOk (s := accept 0x44#8 s) (by decide) rfl rfl hrecord hfits
      fun _ ht hp _ => convertTemperature_s3_trafficOk (ht.mayAsk rfl) hp
  | searchAlarm => cases he; exact stub_trafficOk (by decide) hrecord hfits
  | loadScratchpad => cases he; exact stub_trafficOk (by decide) hrecord hfits
  | saveScratchpad => cases he; exact stub_trafficOk (by decide) hrecord hfits
  | readPowerSupply => cases he; exact stub_trafficOk (by decide) hrecord hfits
  | _ => exact absurd rfl hpure

/-! ## The step -/

/-- A waiting operation goes on from the request that stands at the port, which may be made there. -/
theorem trafficOk_resumed (h : TrafficOk s) (hb : s.busy = true) (hport : s.reqPort = some q)
    (hn : s.sstep.toNat = n + 1) (hfs : stepsInProgress s = some fs)
    (hok : MayAsk q s → TrafficOk (runSteps (fs.drop n) (n + 1) s)) :
    TrafficOk (runSteps (stepsLeft s) s.sstep.toNat s) := by
  obtain ⟨p, hrecord, -, hfits⟩ := trafficOk_iff.mp h
  rw [portFits, hport] at hfits
  rw [stepsLeft_eq hfs hn, hn]
  exact hok ⟨p, ⟨hb, hrecord⟩, hfits⟩

/-- `TEMPERATURE` goes on. -/
theorem temperature_trafficOk_resumed (h : TrafficOk s) (hb : s.busy = true) (hpend : s.reqPort = pendingRequest s)
    (hphase : s.sstep = 9#4 → s.phase = .none) (hop : s.curOp = 0x0A#8) (hlo : 2 ≤ s.sstep.toNat) (hhi : s.sstep.toNat ≤ 9) :
    TrafficOk (runSteps (stepsLeft s) s.sstep.toNat s) := by
  have hfs : stepsInProgress s = some stepsTemperature := by simp [stepsInProgress, hop]
  have hsn : s.sstep = BitVec.ofNat 4 s.sstep.toNat := by simp
  simp only [pendingRequest, hop] at hpend
  generalize hn : s.sstep.toNat = n at hlo hhi hpend hsn
  rw [← hn]
  interval_cases n
  · exact trafficOk_resumed h hb hpend hn hfs temperature_s2_trafficOk
  · exact trafficOk_resumed h hb hpend hn hfs temperature_s3_trafficOk
  · exact trafficOk_resumed h hb hpend hn hfs temperature_s4_trafficOk
  · exact trafficOk_resumed h hb hpend hn hfs temperature_s5_trafficOk
  · exact trafficOk_resumed h hb hpend hn hfs temperature_s6_trafficOk
  · exact trafficOk_resumed h hb hpend hn hfs temperature_s7_trafficOk
  · exact trafficOk_resumed h hb hpend hn hfs temperature_s8_trafficOk
  · exact trafficOk_resumed h hb hpend hn hfs fun hask => runSteps_image_trafficOk hask (hphase hsn)

theorem runSteps_stepsLeft_trafficOk (hregs : RegistersOk s) (h : TrafficOk s) (hb : s.busy = true) :
    TrafficOk (runSteps (stepsLeft s) s.sstep.toNat s) := by
  obtain ⟨-, hwait⟩ := hregs.sequencer
  obtain ⟨hsome, hpend⟩ := hwait hb
  have hphase := hregs.waitingPhase hb
  have hnone : s.curOp ∉ [0x00#8, 0x0A#8] → s.phase = .none := fun hop => by
    simp only [List.mem_cons, List.not_mem_nil, or_false, not_or] at hop
    obtain ⟨hreset, htemp⟩ := hop
    exact (hphase hreset).1 htemp
  rw [hpend] at hsome
  obtain ⟨hop, hn⟩ | ⟨hop, hn | hn⟩ | ⟨hop, hn⟩ | ⟨hop, hn⟩ | ⟨hop, hn | hn⟩ | ⟨hop, hn⟩ | ⟨hop, hn | hn⟩ |
    ⟨hop, hn, first, hreq⟩ | ⟨hop, hlo, hhi⟩ := pendingRequest_isSome_cases hsome
  · exact trafficOk_resumed (q := .reset) h hb (by simp [hpend, pendingRequest, hop, hn]) hn (by simp [stepsInProgress, hop])
      busReset_s2_trafficOk
  · exact trafficOk_resumed h hb (by simp [hpend, pendingRequest, hop, hn]) hn (by simp [stepsInProgress, hop])
      (readAddress_s4_trafficOk · (hnone (by simp [hop])))
  · exact trafficOk_resumed h hb (by simp [hpend, pendingRequest, hop, hn]) hn (by simp [stepsInProgress, hop])
      (readAddress_s5_trafficOk · (hnone (by simp [hop])))
  · exact trafficOk_resumed h hb (by simp [hpend, pendingRequest, hop, hn]) hn (by simp [stepsInProgress, hop])
      (matchAddress_s3_trafficOk · (hnone (by simp [hop])))
  · exact trafficOk_resumed h hb (by simp [hpend, pendingRequest, hop, hn]) hn (by simp [stepsInProgress, hop])
      (skipAddress_s3_trafficOk · (hnone (by simp [hop])))
  · exact trafficOk_resumed h hb (by simp [hpend, pendingRequest, hop, hn]) hn (by simp [stepsInProgress, hop])
      (readScratchpad_s4_trafficOk · (hnone (by simp [hop])))
  · exact trafficOk_resumed h hb (by simp [hpend, pendingRequest, hop, hn]) hn (by simp [stepsInProgress, hop])
      (readScratchpad_s5_trafficOk · (hnone (by simp [hop])))
  · exact trafficOk_resumed h hb (by simp [hpend, pendingRequest, hop, hn]) hn (by simp [stepsInProgress, hop])
      (writeScratchpad_s3_trafficOk · (hnone (by simp [hop])))
  · exact trafficOk_resumed h hb (by simp [hpend, pendingRequest, hop, hn]) hn (by simp [stepsInProgress, hop])
      (convertTemperature_s3_trafficOk · (hnone (by simp [hop])))
  · exact trafficOk_resumed h hb (by simp [hpend, pendingRequest, hop, hn]) hn (by simp [stepsInProgress, hop])
      (convertTemperature_s4_trafficOk · (hnone (by simp [hop])))
  · exact trafficOk_resumed h hb hreq hn (by simp [stepsInProgress, hop, hreq]) (search_s3_trafficOk · (hnone (by simp [hop])))
  · obtain ⟨-, htemp⟩ := hphase (by simp [hop])
    obtain ⟨-, -, hconsumed⟩ := htemp hop
    exact temperature_trafficOk_resumed h hb hpend (fun h9 => hconsumed (.inr (.inr h9))) hop hlo hhi

/-- Settles O13: a waiting operation goes on from a request that it may make, an accepted one starts where the phase tells
that the traffic stands, and an illegal word makes no traffic. -/
theorem stepKeepsTheCommandGrammar : Obligations.StepKeepsTheCommandGrammar := by
  intro s t hregs h hstep
  obtain ⟨hb, hresume⟩ | ⟨-, -, rfl⟩ | ⟨w, rest, i, hb, -, -, hexec⟩ | ⟨w, rest, op, hb, -, -, rfl⟩ := step_cases hstep
  · exact resume_next hresume ▸ runSteps_stepsLeft_trafficOk hregs h hb
  · exact h
  all_goals
    obtain ⟨p, hrecord, hbusy | hfits, hport⟩ := trafficOk_iff.mp h
    · exact Bool.noConfusion (hb.symm.trans hbusy)
  · exact exec_trafficOk (s := { s with hostOps := rest }) hrecord hfits hexec
  · exact trafficOk_iff.mpr ⟨p, hrecord, .inr hfits, hport⟩

end Sys2Proof.Machine
end

section
/-! `search()`, the whole enumeration (R70 (c), R130): one operation takes one answer, and the loop goes on after every item. -/

namespace Sys2Proof.Machine

variable {first : Bool} {x : Except TErr Addr} {rest : List Answer} {fuel : Nat} {s t : State}

/-- What `SEARCH` has done when it has taken an item: the loop yields the item and goes on. -/
structure TakesItem (first : Bool) (x : Except TErr Addr) (rest : List Answer) (s t : State) : Prop where
  exec : exec (.search first) s = .next t
  result : searchResult t = [itemResult x]
  goesOn : t.status ≠ .searchEnd
  next : ∃ av k v, t = { s with
    a := itemAddr s.a x, terr := itemPayload s.terr x, av := av, so := true, phase := .none, status := k, info := v,
    answers := rest, bus := s.bus ++ [⟨.searchNext first, itemAnswer x, []⟩],
    curOp := 0xF0#8, sstep := 0#4, busy := false, reqPort := none }

theorem search_takesItem (hopen : first = true ∨ s.so = true) (hans : s.answers = itemAnswer x :: rest) :
    ∃ t, TakesItem first x rest s t := by
  cases x with
  | error e =>
    obtain ⟨-, hrun, -⟩ := searchTakesOneItem first s rest 0#64 e
    obtain ⟨-, -, hfailed, -⟩ := hrun hopen
    exact ⟨_, hfailed hans, rfl, nofun, _, _, _, rfl⟩
  | ok a =>
    obtain ⟨-, hrun, -⟩ := searchTakesOneItem first s rest a s.terr
    obtain ⟨hitem, hforeign, -⟩ := hrun hopen
    by_cases hfam : a.extractLsb' 0 8 = 0x28#8
    · have hok : familyOk a = true := beq_iff_eq.mpr hfam
      exact ⟨_, hitem hans hfam, by simp [searchResult, itemResult, hok], nofun, _, _, _, rfl⟩
    · have hother : familyOk a = false := beq_eq_false_iff_ne.mpr hfam
      exact ⟨_, hforeign hans hfam, by simp [searchResult, itemResult, hother], nofun, _, _, _, rfl⟩

/-- The loop after an item. -/
theorem TakesItem.searchLoop (h : TakesItem first x rest s t) :
    searchLoop (fuel + 1) first s = (itemResult x :: (searchLoop fuel false t).1, (searchLoop fuel false t).2) := by
  obtain ⟨av, k, v, ht⟩ := h.next
  have hb : t.busy = false := by rw [ht]
  rw [searchLoop_goes_on h.exec hb h.goesOn, h.result]
  rfl

/-- The exchanges of an enumeration from its `k`-th request on: only the one with number 0 restarts it. -/
def searchEvents (k : Nat) (answered : List Answer) : List BusEvent :=
  (answered.zipIdx k).map fun x => ⟨.searchNext (x.2 == 0), x.1, []⟩

theorem searchEvents_cons (k : Nat) (ans : Answer) (answered : List Answer) :
    searchEvents k (ans :: answered) = ⟨.searchNext (k == 0), ans, []⟩ :: searchEvents (k + 1) answered := rfl

/-- The state after an enumeration that came to its end, its requests numbered from `k`. -/
def searchEnded (k : Nat) (items : List (Except TErr Addr)) (rest : List Answer) (s : State) : State :=
  { s with
    a := items.foldl itemAddr s.a, terr := items.foldl itemPayload s.terr,
    av := false, so := false, phase := .none, status := .searchEnd, info := 0x00#8, answers := rest,
    bus := s.bus ++ searchEvents k (items.map itemAnswer ++ [.noMore]),
    curOp := 0xF0#8, sstep := 0#4, busy := false, reqPort := none }

/-- An item first, then the rest of the enumeration. -/
theorem searchEnded_cons (items : List (Except TErr Addr)) {k : Nat} {rest' : List Answer}
    (h : TakesItem (k == 0) x rest' s t) : searchEnded (k + 1) items rest t = searchEnded k (x :: items) rest s := by
  obtain ⟨av, st, v, rfl⟩ := h.next
  simp [searchEnded, searchEvents_cons]

/-- The loop from the request with number `k` of an enumeration. -/
theorem searchLoop_items (items : List (Except TErr Addr)) (k : Nat) (hopen : (k == 0) = true ∨ s.so = true)
    (hans : s.answers = items.map itemAnswer ++ .noMore :: rest) (hfuel : items.length < fuel) :
    searchLoop fuel (k == 0) s = (items.map itemResult, .next (searchEnded k items rest s)) := by
  induction items generalizing k s fuel with
  | nil =>
    obtain ⟨fuel, rfl⟩ := Nat.exists_eq_succ_of_ne_zero hfuel.ne'
    obtain ⟨-, hrun, -⟩ := searchTakesOneItem (k == 0) s rest 0#64 s.terr
    obtain ⟨-, -, -, hend⟩ := hrun hopen
    exact searchLoop_stops (hend hans) (.inr rfl)
  | cons x items ih =>
    obtain ⟨fuel, rfl⟩ := Nat.exists_eq_succ_of_ne_zero (Nat.ne_zero_of_lt hfuel)
    obtain ⟨t, ht⟩ := search_takesItem hopen hans
    obtain ⟨hso, hanswers⟩ : t.so = true ∧ t.answers = items.map itemAnswer ++ .noMore :: rest := by
      obtain ⟨av, st, v, rfl⟩ := ht.next
      exact ⟨rfl, rfl⟩
    have hrest := ih (k + 1) (.inr hso) hanswers (Nat.lt_of_succ_lt_succ hfuel)
    have hfirst : (k + 1 == 0) = false := rfl
    rw [hfirst] at hrest
    rw [ht.searchLoop, hrest, searchEnded_cons items ht]
    rfl

/-- Settles O54: item by item, in the number of the request. -/
theorem searchProgramYieldsEveryItem : Obligations.SearchProgramYieldsEveryItem := by
  intro s items rest answered hans
  have hans : s.answers = items.map itemAnswer ++ .noMore :: rest := by rw [hans]; simp [answered]
  exact searchLoop_items items 0 (.inl rfl) hans (by simp [hans])

/-- How `search()` stops: at the end of the enumeration, or at a request with no answer. -/
def SearchStops (t : State) : Prop :=
  (t.busy = false ∧ t.status = .searchEnd ∧ t.so = false) ∨
  (t.busy = true ∧ t.curOp = 0xF0#8 ∧ t.reqPort.isSome = true)

/-- The loop goes on only after an item, which has used an answer. -/
theorem searchLoop_stops_of_fuel (first : Bool) (hfuel : s.answers.length < fuel) :
    ∃ results t, searchLoop fuel first s = (results, .next t) ∧ SearchStops t := by
  induction fuel generalizing first s with
  | zero => exact absurd hfuel (Nat.not_lt_zero _)
  | succ fuel ih =>
    have hitem : ∀ x rest, (first = true ∨ s.so = true) → s.answers = itemAnswer x :: rest →
        ∃ results t, searchLoop (fuel + 1) first s = (results, .next t) ∧ SearchStops t := fun x rest hopen hans => by
      obtain ⟨t, ht⟩ := search_takesItem hopen hans
      have hlength : t.answers.length < fuel := by
        obtain ⟨av, k, v, rfl⟩ := ht.next
        simpa [hans] using hfuel
      obtain ⟨results, u, hloop, hu⟩ := ih false hlength
      exact ⟨itemResult x :: results, u, by rw [ht.searchLoop, hloop], hu⟩
    obtain ⟨hnext, hclosed⟩ | ⟨hopen, ⟨a, rest, hans⟩ | ⟨e, rest, hans⟩ | ⟨rest, hans⟩ | hwait⟩ := search_cases first s
    · obtain ⟨-, -, hrun⟩ := searchTakesOneItem first s [] 0#64 s.terr
      exact ⟨[], _, searchLoop_stops (hrun hnext hclosed) (.inr rfl), .inl ⟨rfl, rfl, hclosed⟩⟩
    · exact hitem (.ok a) rest hopen hans
    · exact hitem (.error e) rest hopen hans
    · obtain ⟨-, hrun, -⟩ := searchTakesOneItem first s rest 0#64 s.terr
      obtain ⟨-, -, -, hend⟩ := hrun hopen
      exact ⟨[], _, searchLoop_stops (hend hans) (.inr rfl), .inl ⟨rfl, rfl, rfl⟩⟩
    · exact ⟨[], _, searchLoop_stops hwait (.inl rfl), .inr ⟨rfl, rfl, rfl⟩⟩

/-- Settles O55: one operation more than there are answers is enough. -/
theorem searchProgramEndsOrWaits : Obligations.SearchProgramEndsOrWaits := fun s =>
  searchLoop_stops_of_fuel true (Nat.lt_succ_self s.answers.length)

end Sys2Proof.Machine
end

section
/-! What a step of an idle block is (R10, R30, R148), the reset state (R160), the codes of the status and phase registers
(R24, R32, R140), and what the host reads (R21, R22, R53). -/

namespace Sys2Proof.Machine

variable {s : State} {n : RegName}

/-! ## The step of an idle block -/

/-- Settles O5: an idle block fetches the word. -/
theorem stepRunsTheDecodedOperation : Obligations.StepRunsTheDecodedOperation := by
  intro s w rest i hb hops hw
  simp [step, fetch, hb, hops, hw]

/-- Settles O6: there is nothing to fetch, or nothing that decodes. -/
theorem idleBlockAndMalformedWord : Obligations.IdleBlockAndMalformedWord := by
  refine ⟨fun s hb hops => ?_, fun s w rest hb hops hw => ?_⟩
  · simp [step, fetch, hb, hops]
  · simp [step, fetch, hb, hops, hw]

/-! ## Reset and errors -/

/-- Settles O11: the reset state is an idle block with no flag set and no traffic. -/
theorem resetMeetsTheInvariants : Obligations.ResetMeetsTheInvariants :=
  ⟨registersOk_ended ⟨nofun, nofun, nofun⟩ (by simp [StatusOk, State.reset, infoFits]) rfl rfl rfl,
    NoSession.trafficOk ⟨⟨.idle, rfl⟩, rfl, rfl⟩⟩

/-- Settles O15: raising is these four writes. -/
theorem raiseWritesStatusInfoAndEnds : Obligations.RaiseWritesStatusInfoAndEnds := fun _ _ _ => rfl

/-! ## Codes -/

/-- A status is no error exactly where it is `OK` or `SEARCH_END` (R140). -/
theorem statusIsError_eq_false_iff (k : Status) : statusIsError k = false ↔ k = .ok ∨ k = .searchEnd := by
  cases k <;> simp [statusIsError]

/-- The four flags in `FLAGS` (R32). -/
theorem getLsbD_flagsOf (s : State) :
    (flagsOf s).getLsbD 0 = s.busy ∧ (flagsOf s).getLsbD 1 = s.av ∧ (flagsOf s).getLsbD 2 = s.spv ∧
      (flagsOf s).getLsbD 3 = s.so := by
  have hbits : ∀ so spv av busy : Bool,
      let flags := BitVec.ofBool so ++ BitVec.ofBool spv ++ BitVec.ofBool av ++ BitVec.ofBool busy
      flags.getLsbD 0 = busy ∧ flags.getLsbD 1 = av ∧ flags.getLsbD 2 = spv ∧ flags.getLsbD 3 = so := by decide
  exact hbits s.so s.spv s.av s.busy

/-- Settles O51: the codes one by one, and the flags bit by bit. -/
theorem statusPhaseAndFlagCodes : Obligations.StatusPhaseAndFlagCodes :=
  ⟨rfl, statusIsError_eq_false_iff, rfl, getLsbD_flagsOf⟩

/-! ## Host reads -/

/-- An idle block is read register by register (R10). -/
theorem hostRead_of_idle (hb : s.busy = false) (n : RegName) : hostRead n s = readIdle n s := by
  simp [hostRead, hb]

theorem addrReadable_iff : addrReadable s = true ↔ s.av = true ∨ s.status = .familyCode := by
  simp [addrReadable]

theorem readIdle_addr_of_readable (h : addrReadable s = true) : readIdle .rA s = .value s.a.toNat :=
  if_pos h

theorem readIdle_addr_of_not_readable (h : ¬ addrReadable s = true) : readIdle .rA s = .meaningless :=
  if_neg h

/-- Settles O53: each read of an idle block, by the condition it is guarded by, if it is. -/
theorem hostReadsRespectTheValidFlags : Obligations.HostReadsRespectTheValidFlags := by
  intro s hb
  simp only [hostRead_of_idle hb]
  refine ⟨fun hspv => ?invalid, fun hspv => ?valid, fun h => readIdle_addr_of_readable (addrReadable_iff.mpr h),
    fun hav hstatus => readIdle_addr_of_not_readable fun h => ?unreadable,
    ⟨rfl, rfl, rfl, rfl, rfl, rfl, rfl⟩, ⟨rfl, rfl, rfl, rfl, rfl, rfl, rfl, rfl, rfl⟩,
    ⟨rfl, rfl, fun _ => rfl, rfl⟩, fun _ => rfl⟩
  case invalid => simp [readIdle, guardedRead, hspv]
  case valid => simp [readIdle, guardedRead, hspv]
  case unreadable =>
    obtain hav' | hstatus' := addrReadable_iff.mp h
    · exact Bool.noConfusion (hav.symm.trans hav')
    · exact hstatus hstatus'

end Sys2Proof.Machine
end
